-- ==== Sys2Proof/Word.lean ====
section
/-! DEFINITION. The word types of the block, at the widths 00_scope.md rule R8 and 30_encoding.md rule R59 fix. -/

namespace Sys2Proof

/-- The host data bus, 32 bits (R8). -/
abbrev Word := BitVec 32

/-- A host byte address, 13 bits (R8, R46). -/
abbrev Addr := BitVec 13

/-- One Color: red in bits 23:16, green in 15:8, blue in 7:0 (R8, R52). -/
abbrev Color := BitVec 24

/-- One transaction word of format T, 47 bits (R59). -/
abbrev Transaction := BitVec 47

/-- A byte, used only where an instruction is laid out as bytes (log entry 11). -/
abbrev Byte := BitVec 8

end Sys2Proof
end

