-- ==== Sys2Proof/Syntax.lean ====
section
/-! DEFINITION. The block's "instructions": the bus transactions of 30_encoding.md rule R64, one constructor for each row
of spec/opcode_table.json. A constructor carries every bit its row's pattern leaves open, the ignored ones too
(log entry 12), so that an instruction and its 47-bit word determine each other. -/

namespace Sys2Proof

/-- The direction bit W of format T (R60). -/
inductive Access where
  /-- W = 0: `MemRead`. -/
  | read
  /-- W = 1: `MemWrite`. -/
  | write
deriving DecidableEq, Repr

/-- The rows of R64, in table order. `acc`, `a` and `d` are the fields W, A and D of format T (R60). -/
inductive Instr where
  /-- Row 1 (R105): no transaction; every other field is ignored. -/
  | idle (acc : Access) (a : Addr) (d : Word)
  /-- Row 2 (R106): `A[0] = 1`. -/
  | badAlignOdd (acc : Access) (a : Addr) (d : Word)
  /-- Row 3 (R107): `A[1:0] = 0b10`. -/
  | badAlignHalf (acc : Access) (a : Addr) (d : Word)
  /-- Row 4 (R108). -/
  | rdCtrl (d : Word)
  /-- Row 5 (R109): the new OE is `d[0]`. -/
  | wrCtrl (d : Word)
  /-- Row 6 (R110). -/
  | rdCmd (d : Word)
  /-- Row 7 (R74). -/
  | nop
  /-- Row 8 (R75): `count` is `D[31:16]`. -/
  | transmit (count : BitVec 16)
  /-- Row 9 (R78): a CMD word that is neither NOP nor TRANSMIT. -/
  | cmdReserved (d : Word)
  /-- Row 10 (R111). -/
  | rdStatus (d : Word)
  /-- Row 11 (R112). -/
  | wrStatus (d : Word)
  /-- Row 12 (R113). -/
  | rdXcount (d : Word)
  /-- Row 13 (R114). -/
  | wrXcount (d : Word)
  /-- Row 14 (R115). -/
  | rdPos (d : Word)
  /-- Row 15 (R116). -/
  | wrPos (d : Word)
  /-- Row 16 (R117). -/
  | rdConfig (d : Word)
  /-- Row 17 (R118). -/
  | wrConfig (d : Word)
  /-- Row 18 (R119). -/
  | rdTiming0 (d : Word)
  /-- Row 19 (R120). -/
  | wrTiming0 (d : Word)
  /-- Row 20 (R121). -/
  | rdTiming1 (d : Word)
  /-- Row 21 (R122). -/
  | wrTiming1 (d : Word)
  /-- Row 22 (R123). -/
  | rdFclk (d : Word)
  /-- Row 23 (R124). -/
  | wrFclk (d : Word)
  /-- Row 24 (R125): `index` is `A[11:2]`. -/
  | rdFb (index : BitVec 10) (d : Word)
  /-- Row 25 (R126): `index` is `A[11:2]`, the color is `d[23:0]`. -/
  | wrFb (index : BitVec 10) (d : Word)
  /-- Row 26 (R127): a well-aligned address that nothing is mapped at. -/
  | badAddr (acc : Access) (a : Addr) (d : Word)
deriving DecidableEq, Repr

end Sys2Proof
end

