-- ==== Sys2Proof/WellFormed.lean ====
section
/-! DEFINITION. Which terms of `Instr` are instructions: those whose open fields keep their word in their own row of
30_encoding.md rule R64, given the first-match order of rule R63. -/

namespace Sys2Proof

/-- The address of the frame-buffer window or of a register (R47): rows 4 to 25 take every such address. -/
def Addr.mapped (a : Addr) : Bool :=
  a.getLsbD 12 || decide (a.toNat ≤ 0x0020)

/-- The check of an instruction's open fields against its row. -/
def Instr.wf : Instr → Bool
  | .idle _ _ _ => true
  | .badAlignOdd _ a _ => a.getLsbD 0
  | .badAlignHalf _ a _ => a.getLsbD 1 && !a.getLsbD 0
  | .rdCtrl _ => true
  | .wrCtrl _ => true
  | .rdCmd _ => true
  | .nop => true
  | .transmit _ => true
  | .cmdReserved d => decide (d ≠ 0#32) && decide (d.extractLsb' 0 16 ≠ 1#16)
  | .rdStatus _ => true
  | .wrStatus _ => true
  | .rdXcount _ => true
  | .wrXcount _ => true
  | .rdPos _ => true
  | .wrPos _ => true
  | .rdConfig _ => true
  | .wrConfig _ => true
  | .rdTiming0 _ => true
  | .wrTiming0 _ => true
  | .rdTiming1 _ => true
  | .wrTiming1 _ => true
  | .rdFclk _ => true
  | .wrFclk _ => true
  | .rdFb _ _ => true
  | .wrFb _ _ => true
  | .badAddr _ a _ => !a.getLsbD 0 && !a.getLsbD 1 && !Addr.mapped a

end Sys2Proof
end

