-- ==== Sys2Proof/Decode.lean ====
section
/-! DEFINITION. Decoding a transaction word (30_encoding.md rules R59 to R64) and encoding one; the bytes a word is laid
out in (log entry 11); the rows of spec/opcode_table.json as data. -/

namespace Sys2Proof

/-! ### Format T (R59, R60) -/

/-- The bit W for an access. -/
def Access.isWrite : Access → Bool
  | .read => false
  | .write => true

/-- The access for the bit W. -/
def Access.ofBit (w : Bool) : Access :=
  if w then .write else .read

/-- `T = {bus_valid, bus_we, bus_addr[12:0], bus_wdata[31:0]}` (R59). -/
def packT (v : Bool) (acc : Access) (a : Addr) (d : Word) : Transaction :=
  BitVec.ofBool v ++ BitVec.ofBool acc.isWrite ++ a ++ d

/-- Field V, bit 46 (R60). -/
def fieldV (w : Transaction) : Bool := w.getLsbD 46

/-- Field W, bit 45 (R60). -/
def fieldW (w : Transaction) : Access := Access.ofBit (w.getLsbD 45)

/-- Field A, bits 44:32 (R60). -/
def fieldA (w : Transaction) : Addr := w.extractLsb' 32 13

/-- Field D, bits 31:0 (R60). -/
def fieldD (w : Transaction) : Word := w.extractLsb' 0 32

/-! ### Decoding (R61, R63, R64) -/

/-- The command word of format C (R61): rows 7, 8 and 9 of R64. -/
def decodeCommand (d : Word) : Instr :=
  if d = 0#32 then .nop
  else if d.extractLsb' 0 16 = 1#16 then .transmit (d.extractLsb' 16 16)
  else .cmdReserved d

/-- A register row by direction. -/
def byAccess (acc : Access) (rd wr : Instr) : Instr :=
  match acc with
  | .read => rd
  | .write => wr

/-- Rows 1 to 26 of R64 over the fields, in table order. -/
def decodeFields (v : Bool) (acc : Access) (a : Addr) (d : Word) : Instr :=
  if v = false then .idle acc a d
  else if a.getLsbD 0 then .badAlignOdd acc a d
  else if a.getLsbD 1 then .badAlignHalf acc a d
  else if a = 0x0000#13 then byAccess acc (.rdCtrl d) (.wrCtrl d)
  else if a = 0x0004#13 then byAccess acc (.rdCmd d) (decodeCommand d)
  else if a = 0x0008#13 then byAccess acc (.rdStatus d) (.wrStatus d)
  else if a = 0x000C#13 then byAccess acc (.rdXcount d) (.wrXcount d)
  else if a = 0x0010#13 then byAccess acc (.rdPos d) (.wrPos d)
  else if a = 0x0014#13 then byAccess acc (.rdConfig d) (.wrConfig d)
  else if a = 0x0018#13 then byAccess acc (.rdTiming0 d) (.wrTiming0 d)
  else if a = 0x001C#13 then byAccess acc (.rdTiming1 d) (.wrTiming1 d)
  else if a = 0x0020#13 then byAccess acc (.rdFclk d) (.wrFclk d)
  else if a.getLsbD 12 then byAccess acc (.rdFb (a.extractLsb' 2 10) d) (.wrFb (a.extractLsb' 2 10) d)
  else .badAddr acc a d

/-- Decoding a transaction word: total, since "every word matches at least row 26" (R63). -/
def decodeWord (w : Transaction) : Instr :=
  decodeFields (fieldV w) (fieldW w) (fieldA w) (fieldD w)

/-! ### Bytes (log entry 11: no byte order is observable, R53) -/

/-- Why a byte string is no transaction word. -/
inductive DecodeError where
  /-- Not exactly six bytes: "format T has one length, 47 bits" (R59). -/
  | wrongLength
  /-- Bit 47, which format T does not have, is set. -/
  | bitAboveFormatT
deriving DecidableEq, Repr

/-- The number six bytes stand for, lane 0 first (R53's lane numbering). -/
def bytesToNat : List Byte → Nat
  | [] => 0
  | b :: bs => b.toNat + 256 * bytesToNat bs

/-- The first `n` bytes of a number, lane 0 first. -/
def natToBytes : Nat → Nat → List Byte
  | 0, _ => []
  | n + 1, w => BitVec.ofNat 8 w :: natToBytes n (w / 256)

/-- Decoding bytes: six of them, with bit 47 clear. -/
def decodeBytes (bs : List Byte) : Except DecodeError Instr :=
  if bs.length ≠ 6 then .error .wrongLength
  else if 2 ^ 47 ≤ bytesToNat bs then .error .bitAboveFormatT
  else .ok (decodeWord (BitVec.ofNat 47 (bytesToNat bs)))

/-- How many bytes hold `nbits` bits of a row: format T's six, or more where more are given. -/
def tableBytes (nbits : Nat) : Nat := max 6 ((nbits + 7) / 8)

/-- The instruction the decoder reads from a word numbered as spec/opcode_table.json numbers it. -/
def decodeTableWord (nbits w : Nat) : Option Instr :=
  (decodeBytes (natToBytes (tableBytes nbits) (w % 2 ^ nbits))).toOption

/-! ### Encoding -/

/-- The address of frame-buffer word `index`: `0x1000 + 4*index` (R47, R48). -/
def fbAddr (index : BitVec 10) : Addr := 1#1 ++ index ++ 0#2

/-- The word of an instruction, from R60, R61 and R64. -/
def encode : Instr → Transaction
  | .idle acc a d => packT false acc a d
  | .badAlignOdd acc a d => packT true acc a d
  | .badAlignHalf acc a d => packT true acc a d
  | .rdCtrl d => packT true .read 0x0000#13 d
  | .wrCtrl d => packT true .write 0x0000#13 d
  | .rdCmd d => packT true .read 0x0004#13 d
  | .nop => packT true .write 0x0004#13 0x00000000#32
  | .transmit count => packT true .write 0x0004#13 (count ++ 0x0001#16)
  | .cmdReserved d => packT true .write 0x0004#13 d
  | .rdStatus d => packT true .read 0x0008#13 d
  | .wrStatus d => packT true .write 0x0008#13 d
  | .rdXcount d => packT true .read 0x000C#13 d
  | .wrXcount d => packT true .write 0x000C#13 d
  | .rdPos d => packT true .read 0x0010#13 d
  | .wrPos d => packT true .write 0x0010#13 d
  | .rdConfig d => packT true .read 0x0014#13 d
  | .wrConfig d => packT true .write 0x0014#13 d
  | .rdTiming0 d => packT true .read 0x0018#13 d
  | .wrTiming0 d => packT true .write 0x0018#13 d
  | .rdTiming1 d => packT true .read 0x001C#13 d
  | .wrTiming1 d => packT true .write 0x001C#13 d
  | .rdFclk d => packT true .read 0x0020#13 d
  | .wrFclk d => packT true .write 0x0020#13 d
  | .rdFb index d => packT true .read (fbAddr index) d
  | .wrFb index d => packT true .write (fbAddr index) d
  | .badAddr acc a d => packT true acc a d

/-- The six bytes of an instruction. -/
def encodeBytes (i : Instr) : List Byte := natToBytes 6 (encode i).toNat

/-! ### The opcode table as data -/

/-- One row of spec/opcode_table.json: "a row `r` matches word `T` if `T & mask = match`" (R63). -/
structure OpcodeRow where
  row : Nat
  mask : Transaction
  pattern : Transaction
deriving DecidableEq, Repr

/-- The rows of spec/opcode_table.json, in its order, with its `mask` and `match`. -/
def opcodeRows : List OpcodeRow :=
  [ ⟨1, 0x400000000000#47, 0x000000000000#47⟩,
    ⟨2, 0x400100000000#47, 0x400100000000#47⟩,
    ⟨3, 0x400300000000#47, 0x400200000000#47⟩,
    ⟨4, 0x7FFF00000000#47, 0x400000000000#47⟩,
    ⟨5, 0x7FFF00000000#47, 0x600000000000#47⟩,
    ⟨6, 0x7FFF00000000#47, 0x400400000000#47⟩,
    ⟨7, 0x7FFFFFFFFFFF#47, 0x600400000000#47⟩,
    ⟨8, 0x7FFF0000FFFF#47, 0x600400000001#47⟩,
    ⟨9, 0x7FFF00000000#47, 0x600400000000#47⟩,
    ⟨10, 0x7FFF00000000#47, 0x400800000000#47⟩,
    ⟨11, 0x7FFF00000000#47, 0x600800000000#47⟩,
    ⟨12, 0x7FFF00000000#47, 0x400C00000000#47⟩,
    ⟨13, 0x7FFF00000000#47, 0x600C00000000#47⟩ ] ++
  [ ⟨14, 0x7FFF00000000#47, 0x401000000000#47⟩,
    ⟨15, 0x7FFF00000000#47, 0x601000000000#47⟩,
    ⟨16, 0x7FFF00000000#47, 0x401400000000#47⟩,
    ⟨17, 0x7FFF00000000#47, 0x601400000000#47⟩,
    ⟨18, 0x7FFF00000000#47, 0x401800000000#47⟩,
    ⟨19, 0x7FFF00000000#47, 0x601800000000#47⟩,
    ⟨20, 0x7FFF00000000#47, 0x401C00000000#47⟩,
    ⟨21, 0x7FFF00000000#47, 0x601C00000000#47⟩,
    ⟨22, 0x7FFF00000000#47, 0x402000000000#47⟩,
    ⟨23, 0x7FFF00000000#47, 0x602000000000#47⟩,
    ⟨24, 0x700300000000#47, 0x500000000000#47⟩,
    ⟨25, 0x700300000000#47, 0x700000000000#47⟩,
    ⟨26, 0x400000000000#47, 0x400000000000#47⟩ ]

/-- The number of the first row that a word matches (R63); none where no row does. -/
def firstRow (w : Transaction) : Option Nat :=
  (opcodeRows.find? (fun r => w &&& r.mask == r.pattern)).map OpcodeRow.row

/-- The row of R64 an instruction stands in. -/
def Instr.row : Instr → Nat
  | .idle _ _ _ => 1
  | .badAlignOdd _ _ _ => 2
  | .badAlignHalf _ _ _ => 3
  | .rdCtrl _ => 4
  | .wrCtrl _ => 5
  | .rdCmd _ => 6
  | .nop => 7
  | .transmit _ => 8
  | .cmdReserved _ => 9
  | .rdStatus _ => 10
  | .wrStatus _ => 11
  | .rdXcount _ => 12
  | .wrXcount _ => 13
  | .rdPos _ => 14
  | .wrPos _ => 15
  | .rdConfig _ => 16
  | .wrConfig _ => 17
  | .rdTiming0 _ => 18
  | .wrTiming0 _ => 19
  | .rdTiming1 _ => 20
  | .wrTiming1 _ => 21
  | .rdFclk _ => 22
  | .wrFclk _ => 23
  | .rdFb _ _ => 24
  | .wrFb _ _ => 25
  | .badAddr _ _ _ => 26

end Sys2Proof
end

