-- ==== Sys2Proof/Config.lean ====
section
/-! DEFINITION. What is fixed when the block is built (00_scope.md rule R7, 10_state.md rule R16), and the free
values of the model. The constants derived from these parameters and the validity checks are in Machine/Timing.lean. -/

namespace Sys2Proof

/-- The build-time parameters (R7, R16). The fixed targets of R7 (400 ns and so on) are in Machine/Timing.lean. -/
structure Config where
  /-- `F_CLK_HZ`, the clock-frequency class, in Hz of `clk`. -/
  fClkHz : Nat
  /-- `N_LEDS`, the strip length. -/
  nLeds : Nat
  /-- `PIN_ID`, informational. -/
  pinId : Nat
  /-- `CLOCK_CLASSES`, the supported classes, left OPEN by R16 (log entry 2). -/
  clockClasses : List Nat
deriving DecidableEq, Repr

/-- The configuration that 95_test_vectors.md calls its default: 8 MHz, 3 LEDs, pin 6. The class set is the one that file
uses. DESIGN CHOICE (log entry 1): `State.reset` needs some configuration; no statement for all states rests on it. -/
def Config.vectorDefault : Config :=
  { fClkHz := 8000000, nLeds := 3, pinId := 6, clockClasses := [8000000, 16000000] }

/-- FREE VALUE (R147, log entry 5): what frame-buffer word `i` holds at power-on, until the host writes it. -/
opaque Config.powerOnWord : Nat → Color

/-- FREE VALUE (R149, log entry 3): the format-T word the host presents in the `k`-th cycle past the end of the script. -/
opaque Config.freeTransaction : Nat → Transaction

/-- FREE VALUE (R149, log entry 3): the level of `rst` in the `k`-th cycle past the end of the script. -/
opaque Config.freeRst : Nat → Bool

end Sys2Proof
end

