-- ==== Sys2Proof/Machine/State.lean ====
section
/-! DEFINITION. The state of the block (10_state.md), the inputs and outputs of a cycle, the reasons a step can stop, and
the state after reset. -/

namespace Sys2Proof.Machine

/-- The three legal values of the 2-bit register `phase` (R21); 0b11 is never written (log entry 7). -/
inductive Phase where
  | idle
  | bits
  | reset
deriving DecidableEq, Repr

/-- The six errors the block records (R128). -/
inductive ErrCode where
  | bus
  | cmd
  | busy
  | pin
  | count
  | fbwr
deriving DecidableEq, Repr

/-- The input ports of one cycle (R20): `rst`, and the word T made of the bus ports (R59). -/
structure BusCycle where
  rst : Bool
  word : Transaction
deriving DecidableEq, Repr

/-- The output ports of one cycle (R20, R91, R102). -/
structure Outputs where
  busRdata : Word
  pinOe : Bool
  pinOut : Bool
  irqInhibit : Bool
deriving DecidableEq, Repr

/-- The frame buffer: word `i` at position `i` (R41, log entry 5). -/
abbrev FrameBuffer := List Color

/-- The state of the block (R15), with the ports of its host. -/
structure State where
  /-- The build-time parameters; no step changes them (log entry 1). -/
  config : Config
  /-- R21. -/
  phase : Phase
  /-- R22: the LED count of the transmission in progress or of the last one. -/
  cnt : BitVec 11
  /-- R23: the LED being sent. -/
  led : BitVec 11
  /-- R24: the position in the frame word of the bit being sent. -/
  bit : BitVec 5
  /-- R25: the cycle inside the bit-slot. -/
  cyc : BitVec 8
  /-- R26: the cycle inside the reset pulse. -/
  rcnt : BitVec 24
  /-- R27: the latched frame word. -/
  w : Color
  /-- R28: drives `irq_inhibit`. -/
  inh : Bool
  /-- R29. -/
  done : Bool
  /-- R32: CTRL.OE. -/
  oe : Bool
  /-- R34: `err[6:1]`, code `k` at bit `k - 1` (log entry 9). -/
  err : BitVec 6
  /-- R34: FIRST_ERR. -/
  firstErr : BitVec 3
  /-- R41. -/
  fb : FrameBuffer
  /-- The output ports of the last cycle carried out (log entry 6). -/
  out : Outputs
  /-- The cycles the host is known to present next, oldest first (log entry 3). -/
  script : List BusCycle
  /-- How many free host cycles have been drawn past the script's end (log entry 3). -/
  hostDraws : Nat
  /-- Whether a `rst` cycle has been since power-on (R146, log entry 13). -/
  rstSeen : Bool
deriving DecidableEq, Repr

/-- Why the machine stops with a fault. -/
inductive Fault where
  /-- Raised by `step` in a state that breaks an invariant of R43, which no run reaches: "a model should treat reaching
  one as a fault of the model". Safe: the model stops, nothing can be proved of what follows (log entry 10). -/
  | invariantBroken
deriving DecidableEq, Repr

/-- Why the machine gives a state no step. -/
inductive Refusal where
  /-- Raised by an arm of `exec` whose instruction has no meaning yet (none now). Safe. -/
  | notModelled (mnemonic : String)
  /-- Raised by `step`: the configuration fails a check of R18, or its clock class is not supported, so no block exists
  for it. Safe (log entry 8). -/
  | invalidConfiguration
  /-- Raised by `step`: a cycle with `rst = 0` before the first `rst` cycle (R146). Safe (log entry 13). -/
  | noResetYet
deriving DecidableEq, Repr

/-- The outputs of a `rst` cycle (R144). -/
def Outputs.quiet : Outputs :=
  { busRdata := 0#32, pinOe := false, pinOut := false, irqInhibit := false }

/-- The block built for `c`, powered on and after one `rst` cycle (R44, R144, R147), with no host cycle known. -/
def State.resetWith (c : Config) : State :=
  { config := c
    phase := .idle
    cnt := 0#11
    led := 0#11
    bit := 0#5
    cyc := 0#8
    rcnt := 0#24
    w := 0#24
    inh := false
    done := false
    oe := false
    err := 0#6
    firstErr := 0#3
    fb := (List.range c.nLeds).map Config.powerOnWord
    out := Outputs.quiet
    script := []
    hostDraws := 0
    rstSeen := true }

/-- The machine right after reset, in the default configuration of 95_test_vectors.md (log entry 1). -/
def State.reset : State := State.resetWith Config.vectorDefault

end Sys2Proof.Machine
end

