-- ==== Sys2Proof/Machine/Timing.lean ====
section
/-! DEFINITION. The constants derived from the configuration (10_state.md rule R17), its validity (R18) and the length of
a transmission (41_bit_sequencer.md rule R94). -/

namespace Sys2Proof.Config

/-! ### The fixed targets of 00_scope.md rule R7 -/

def t0hNs : Nat := 400
def t1hNs : Nat := 850
def tbitNs : Nat := 1300
def tresetNs : Nat := 50000
def threshNs : Nat := 625
def tolPpm : Nat := 50000

/-! ### The derived constants (R17) -/

/-- `round(t * F)` for a target in ns, halves going up (R10, R17). -/
def roundCycles (tNs f : Nat) : Nat := (tNs * f + 500000000) / 1000000000

/-- `ceil(t * F)` for a target in ns (R17). -/
def ceilCycles (tNs f : Nat) : Nat := (tNs * f + 999999999) / 1000000000

def t0hCyc (c : Config) : Nat := roundCycles t0hNs c.fClkHz
def t1hCyc (c : Config) : Nat := roundCycles t1hNs c.fClkHz
def tbitCyc (c : Config) : Nat := roundCycles tbitNs c.fClkHz
def tresetCyc (c : Config) : Nat := ceilCycles tresetNs c.fClkHz

/-! ### The checks V0 to V5 (R18) -/

abbrev V0 (c : Config) : Prop :=
  (1 ≤ c.fClkHz ∧ c.fClkHz < 2 ^ 32) ∧ (1 ≤ c.nLeds ∧ c.nLeds ≤ 1024) ∧ c.pinId ≤ 255

abbrev V1 (c : Config) : Prop := 1 ≤ c.t0hCyc

abbrev V2 (c : Config) : Prop := c.t0hCyc < c.t1hCyc ∧ c.t1hCyc < c.tbitCyc

abbrev V3 (c : Config) : Prop :=
  ((c.tbitCyc * 10 ^ 9 : Int) - (tbitNs * c.fClkHz : Int)).natAbs * 10 ^ 6 ≤ tolPpm * tbitNs * c.fClkHz

abbrev V4 (c : Config) : Prop :=
  c.t0hCyc * 10 ^ 9 < threshNs * c.fClkHz ∧ threshNs * c.fClkHz ≤ c.t1hCyc * 10 ^ 9

abbrev V5 (c : Config) : Prop := c.tbitCyc ≤ 255 ∧ c.tresetCyc ≤ 2 ^ 24 - 1

/-- All the checks of R18. -/
abbrev PassesChecks (c : Config) : Prop := V0 c ∧ V1 c ∧ V2 c ∧ V3 c ∧ V4 c ∧ V5 c

/-- A configuration a block is built for: its class is one of `CLOCK_CLASSES` and it passes R18 (R16, log entry 2). -/
abbrev Valid (c : Config) : Prop := c.fClkHz ∈ c.clockClasses ∧ c.PassesChecks

/-- `BUSYCYC(n)`, the BUSY cycles of an accepted TRANSMIT of `n` (R94). -/
def busyCycles (c : Config) (n : Nat) : Nat :=
  if n = 0 then 1 + c.tresetCyc else 24 * n * c.tbitCyc + c.tresetCyc

end Sys2Proof.Config
end

