-- ==== Sys2Proof/Machine/BitTimer.lean ====
section
/-! DEFINITION. The sub-block `protocol_bit_timer`: its compare results (41_bit_sequencer.md rule R89). -/

namespace Sys2Proof.Machine

/-- `TH(b)`: the high cycles of a slot for bit `b` (R89). -/
def highCycles (c : Config) (b : Bool) : Nat :=
  if b then c.t1hCyc else c.t0hCyc

/-- The bit being sent, `w[bit]` (R27). -/
def sentBit (s : State) : Bool := s.w.getLsbD s.bit.toNat

/-- `hi_win = (cyc < TH(w[bit]))` (R89). -/
def hiWin (s : State) : Bool := decide (s.cyc.toNat < highCycles s.config (sentBit s))

/-- `slot_last = (cyc = TBIT_CYC - 1)` (R89). -/
def slotLast (s : State) : Bool := decide (s.cyc.toNat = s.config.tbitCyc - 1)

/-- `reset_last = (rcnt = TRESET_CYC - 1)` (R89). -/
def resetLast (s : State) : Bool := decide (s.rcnt.toNat = s.config.tresetCyc - 1)

end Sys2Proof.Machine
end

