-- ==== Sys2Proof/Machine/PulseGenerator.lean ====
section
/-! DEFINITION. The sub-block `gpio_pulse_generator` and the other output ports: functions of the state before the edge
(41_bit_sequencer.md rule R91, 42_register_access.md rule R102). -/

namespace Sys2Proof.Machine

/-- `active = (phase = BITS) and (cnt > 0)` (R91). -/
def slotActive (s : State) : Bool := decide (s.phase = .bits) && decide (0 < s.cnt.toNat)

/-- `pin_oe` (R91). -/
def pinOe (s : State) (rst : Bool) : Bool := !rst && s.oe

/-- `pin_out` (R91): 1 is the line high. -/
def pinOut (s : State) (rst : Bool) : Bool := !rst && slotActive s && hiWin s

/-- `irq_inhibit` (R91, R134). -/
def irqInhibit (s : State) (rst : Bool) : Bool := !rst && s.inh

/-- The output ports of a cycle; `rdata` is the row rule's read data (R102). -/
def outputs (s : State) (rst : Bool) (rdata : Word) : Outputs :=
  { busRdata := if rst then 0#32 else rdata
    pinOe := pinOe s rst
    pinOut := pinOut s rst
    irqInhibit := irqInhibit s rst }

end Sys2Proof.Machine
end

