-- ==== Sys2Proof/Machine/Ops.lean ====
section
/-! DEFINITION. The named operations over the frame buffer, the host's input, the error record and the registers that an
accepted TRANSMIT and a `rst` cycle write.

The block takes no trap and has no return from one (60_exceptions.md rules R132, R133): what it does in place of taking an
exception is `raiseErr`, the one shared operation every error goes through (R129). -/

namespace Sys2Proof.Machine

/-! ### The frame buffer (10_state.md rule R41) -/

/-- What `FB[i]` reads as. A position the list does not hold, which no reachable state has below `N_LEDS`, reads as its
power-on value (log entry 5). -/
def FrameBuffer.read (fb : FrameBuffer) (i : Nat) : Color := fb.getD i (Config.powerOnWord i)

/-- `FB[i] <- v`. -/
def FrameBuffer.write (fb : FrameBuffer) (i : Nat) (v : Color) : FrameBuffer := fb.set i v

/-- The one form of a frame buffer of `n` words: exactly `n` entries (R41, log entry 5). -/
def FrameBuffer.wf (fb : FrameBuffer) (n : Nat) : Bool := decide (fb.length = n)

/-! ### The host's input (70_reset_and_hazards.md rule R149, log entry 3) -/

/-- The input ports in the `k`-th cycle from now: the script's, and past its end a free value. -/
def State.inputAt (s : State) (k : Nat) : BusCycle :=
  match s.script[k]? with
  | some c => c
  | none =>
    let j := s.hostDraws + (k - s.script.length)
    { rst := Config.freeRst j, word := Config.freeTransaction j }

/-- The state whose next cycle is the one after this: the script's head is used up, or one free cycle is drawn. -/
def State.consumeInput (s : State) : State :=
  match s.script with
  | [] => { s with hostDraws := s.hostDraws + 1 }
  | _ :: rest => { s with script := rest }

/-! ### The error record (60_exceptions.md rules R128, R129) -/

/-- The code of an error (R128). -/
def ErrCode.code : ErrCode → BitVec 3
  | .bus => 1#3
  | .cmd => 2#3
  | .busy => 3#3
  | .pin => 4#3
  | .count => 5#3
  | .fbwr => 6#3

/-- The bit `err[k]` of an error of code `k` in `err[6:1]` (R128). -/
def ErrCode.mask (e : ErrCode) : BitVec 6 := 1#6 <<< (e.code.toNat - 1)

/-- `raise Err(E)` (R129), written over `s1`; its check reads the state `s` before the edge. -/
def raiseErr (e : ErrCode) (s s1 : State) : State :=
  { s1 with
    err := s1.err ||| e.mask
    firstErr := if s.firstErr = 0#3 then e.code else s1.firstErr }

/-! ### Accepting a TRANSMIT (40_commands.md rule R76) -/

/-- `accept(n)` (R76), written over `s1`; the frame word is that of the state `s` before the edge. -/
def accept (n : Nat) (s s1 : State) : State :=
  { s1 with
    phase := .bits
    inh := true
    cnt := BitVec.ofNat 11 n
    led := 0#11
    bit := 23#5
    cyc := 0#8
    rcnt := 0#24
    w := FrameBuffer.read s.fb 0
    done := false }

/-! ### The `rst` cycle (70_reset_and_hazards.md rule R144) -/

/-- The edge that ends a cycle with `rst = 1`: every register at its reset value, the frame buffer and the configuration
kept, the transaction of the cycle without effect. -/
def rstEdge (s : State) : State :=
  { s with
    phase := .idle
    cnt := 0#11
    led := 0#11
    bit := 0#5
    cyc := 0#8
    rcnt := 0#24
    w := 0#24
    inh := false
    done := false
    oe := false
    err := 0#6
    firstErr := 0#3
    out := outputs s true 0#32
    rstSeen := true }

end Sys2Proof.Machine
end

