-- ==== Sys2Proof/Machine/Sequencer.lean ====
section
/-! DEFINITION. What happens at every edge whatever the host does: `seq` (41_bit_sequencer.md rules R84 to R88), and the
end of a cycle with `rst = 0` (R83). -/

namespace Sys2Proof.Machine

/-- R85: the empty BITS cycle ends. -/
def endEmptyBits (s : State) : State :=
  { s with phase := .reset, inh := false, rcnt := 0#24 }

/-- R86: the next cycle of the same slot. -/
def nextCycle (s : State) : State :=
  { s with cyc := BitVec.ofNat 8 (s.cyc.toNat + 1) }

/-- R86: the slot ends; the next bit of the same LED. -/
def nextBit (s : State) : State :=
  { s with cyc := 0#8, bit := BitVec.ofNat 5 (s.bit.toNat - 1) }

/-- R86: the slot ends; the next LED, its word latched. -/
def nextLed (s : State) : State :=
  { s with
    cyc := 0#8
    bit := 23#5
    led := BitVec.ofNat 11 (s.led.toNat + 1)
    w := FrameBuffer.read s.fb (s.led.toNat + 1) }

/-- R87: the last slot ends and the reset pulse begins. -/
def endLastSlot (s : State) : State :=
  { s with
    cyc := 0#8
    led := BitVec.ofNat 11 (s.led.toNat + 1)
    phase := .reset
    inh := false
    rcnt := 0#24 }

/-- R88: the next cycle of the reset pulse. -/
def nextResetCycle (s : State) : State :=
  { s with rcnt := BitVec.ofNat 24 (s.rcnt.toNat + 1) }

/-- R88: the reset pulse ends. -/
def endReset (s : State) : State :=
  { s with rcnt := 0#24, phase := .idle, done := true }

/-- R85 to R87: BITS. -/
def seqBits (s : State) : State :=
  if s.cnt.toNat = 0 then endEmptyBits s
  else if s.cyc.toNat < s.config.tbitCyc - 1 then nextCycle s
  else if 0 < s.bit.toNat then nextBit s
  else if s.led.toNat + 1 < s.cnt.toNat then nextLed s
  else endLastSlot s

/-- R88: RESET. -/
def seqReset (s : State) : State :=
  if s.rcnt.toNat < s.config.tresetCyc - 1 then nextResetCycle s else endReset s

/-- `seq(s)` (R83 to R88). -/
def seq (s : State) : State :=
  match s.phase with
  | .idle => s
  | .bits => seqBits s
  | .reset => seqReset s

/-- The edge that ends a cycle with `rst = 0` and read data `rdata`: `s` is the state before the edge, `s1` holds the
sequencer's and the transaction's writes (R83, R102). -/
def endCycle (s : State) (rdata : Word) (s1 : State) : Host.Outcome State Fault Refusal :=
  .next { s1 with out := outputs s false rdata }

/-- A transaction that writes nothing: a read, `IDLE`, `NOP`. -/
def quietCycle (s : State) (rdata : Word) : Host.Outcome State Fault Refusal :=
  endCycle s rdata (seq s)

/-- A transaction that only raises an error: "performs none of its own writes, and the sequencer's step of that cycle goes
ahead unchanged" (R129); its read data is 0. -/
def errorCycle (e : ErrCode) (s : State) : Host.Outcome State Fault Refusal :=
  endCycle s 0#32 (raiseErr e s (seq s))

end Sys2Proof.Machine
end

