-- ==== Sys2Proof/Machine/BusErrors.lean ====
section
/-! DEFINITION. The cycle without a transaction and the illegal addresses (42_register_access.md rules R105 to R107, R127). -/

namespace Sys2Proof.Machine

/-- R105, IDLE: no write, `bus_rdata = 0`. -/
def execIdle (s : State) : Host.Outcome State Fault Refusal := quietCycle s 0#32

/-- R106, BAD_ALIGN_ODD. -/
def execBadAlignOdd (s : State) : Host.Outcome State Fault Refusal := errorCycle .bus s

/-- R107, BAD_ALIGN_HALF. -/
def execBadAlignHalf (s : State) : Host.Outcome State Fault Refusal := errorCycle .bus s

/-- R127, BAD_ADDR. -/
def execBadAddr (s : State) : Host.Outcome State Fault Refusal := errorCycle .bus s

end Sys2Proof.Machine
end

