-- ==== Sys2Proof/Machine/Operands.lean ====
section
/-! DEFINITION. The operands a transaction's fields give (30_encoding.md rule R62): none is sign-extended, scaled or
shifted. -/

namespace Sys2Proof.Machine

/-- TRANSMIT's `n = zext_16(D[31:16])`, from the field COUNT. -/
def countOperand (count : BitVec 16) : Nat := count.toNat

/-- CTRL.OE: `D[0]`; `D[31:1]` is ignored. -/
def oeOperand (d : Word) : Bool := d.getLsbD 0

/-- The frame-buffer index, from the field `A[11:2]` (R48). -/
def indexOperand (index : BitVec 10) : Nat := index.toNat

/-- The frame word: `D[23:0]`; `D[31:24]` is ignored. -/
def colorOperand (d : Word) : Color := d.extractLsb' 0 24

/-- The index check of rows 24 and 25: `i < N_LEDS` (R48, R125, R126). -/
def indexMapped (s : State) (i : Nat) : Bool := decide (i < s.config.nLeds)

end Sys2Proof.Machine
end

