-- ==== Sys2Proof/Machine/Commands.lean ====
section
/-! DEFINITION. The commands written to CMD (40_commands.md rules R73 to R81). -/

namespace Sys2Proof.Machine

/-- R74, NOP. -/
def execNop (s : State) : Host.Outcome State Fault Refusal := quietCycle s 0#32

/-- R75, TRANSMIT: the checks in the order of their priority (R77, R79, R80), then `accept(n)` (R76). -/
def execTransmit (count : BitVec 16) (s : State) : Host.Outcome State Fault Refusal :=
  if s.phase ≠ .idle then errorCycle .busy s
  else if s.oe = false then errorCycle .pin s
  else if s.config.nLeds < countOperand count then errorCycle .count s
  else endCycle s 0#32 (accept (countOperand count) s (seq s))

/-- R78, CMD_RESERVED. -/
def execCmdReserved (s : State) : Host.Outcome State Fault Refusal := errorCycle .cmd s

end Sys2Proof.Machine
end

