-- ==== Sys2Proof/Machine/Flags.lean ====
section
/-! DEFINITION. The words the host reads: STATUS, the block's only flag word, and the other registers (10_state.md rules R32
to R40, in the forms of 42_register_access.md rules R108 to R125). -/

namespace Sys2Proof.Machine

/-- The encoding of `phase` (R21). -/
def Phase.code : Phase → BitVec 2
  | .idle => 0b00#2
  | .bits => 0b01#2
  | .reset => 0b10#2

/-- `BUSY = (phase != IDLE)` (R31). -/
def busy (s : State) : Bool := decide (s.phase ≠ .idle)

/-- CTRL as read (R108). -/
def ctrlWord (s : State) : Word := (BitVec.ofBool s.oe).setWidth 32

/-- STATUS as read (R111). -/
def statusWord (s : State) : Word :=
  0#13 ++ s.firstErr ++ 0#2 ++ s.err ++ 0#3 ++ BitVec.ofBool s.inh ++ BitVec.ofBool s.done ++ s.phase.code ++
    BitVec.ofBool (busy s)

/-- XCOUNT as read (R113). -/
def xcountWord (s : State) : Word := s.cnt.setWidth 32

/-- POS as read (R115). -/
def posWord (s : State) : Word := s.cyc ++ 0#3 ++ s.bit ++ 0#5 ++ s.led

/-- CONFIG as read (R117). -/
def configWord (c : Config) : Word := 0#8 ++ BitVec.ofNat 8 c.pinId ++ 0#5 ++ BitVec.ofNat 11 c.nLeds

/-- TIMING0 as read (R119). -/
def timing0Word (c : Config) : Word :=
  0#8 ++ BitVec.ofNat 8 c.tbitCyc ++ BitVec.ofNat 8 c.t1hCyc ++ BitVec.ofNat 8 c.t0hCyc

/-- TIMING1 as read (R121). -/
def timing1Word (c : Config) : Word := 0#8 ++ BitVec.ofNat 24 c.tresetCyc

/-- FCLK as read (R123). -/
def fclkWord (c : Config) : Word := BitVec.ofNat 32 c.fClkHz

/-- A frame word as read: `zext_32(FB[i][23:0])` (R125). -/
def colorWord (v : Color) : Word := v.setWidth 32

end Sys2Proof.Machine
end

