-- ==== Sys2Proof/Machine/FrameBuffer.lean ====
section
/-! DEFINITION. Reads and writes of the frame buffer (42_register_access.md rules R125, R126). -/

namespace Sys2Proof.Machine

/-- R125, RD_FB: allowed while BUSY. -/
def execRdFb (index : BitVec 10) (s : State) : Host.Outcome State Fault Refusal :=
  if indexMapped s (indexOperand index) = false then errorCycle .bus s
  else quietCycle s (colorWord (FrameBuffer.read s.fb (indexOperand index)))

/-- R126, WR_FB: the index check comes before the BUSY check (R131). -/
def execWrFb (index : BitVec 10) (d : Word) (s : State) : Host.Outcome State Fault Refusal :=
  if indexMapped s (indexOperand index) = false then errorCycle .bus s
  else if s.phase ≠ .idle then errorCycle .fbwr s
  else endCycle s 0#32 { seq s with fb := FrameBuffer.write (seq s).fb (indexOperand index) (colorOperand d) }

end Sys2Proof.Machine
end

