-- ==== Sys2Proof/Machine/Registers.lean ====
section
/-! DEFINITION. Reads and writes of the registers (42_register_access.md rules R108 to R124). -/

namespace Sys2Proof.Machine

/-- R108, RD_CTRL. -/
def execRdCtrl (s : State) : Host.Outcome State Fault Refusal := quietCycle s (ctrlWord s)

/-- R109, WR_CTRL: dropped with ERR_BUSY while BUSY. -/
def execWrCtrl (d : Word) (s : State) : Host.Outcome State Fault Refusal :=
  if s.phase ≠ .idle then errorCycle .busy s
  else endCycle s 0#32 { seq s with oe := oeOperand d }

/-- R110, RD_CMD: reads 0. -/
def execRdCmd (s : State) : Host.Outcome State Fault Refusal := quietCycle s 0#32

/-- R111, RD_STATUS. -/
def execRdStatus (s : State) : Host.Outcome State Fault Refusal := quietCycle s (statusWord s)

/-- R112, WR_STATUS. -/
def execWrStatus (s : State) : Host.Outcome State Fault Refusal := errorCycle .bus s

/-- R113, RD_XCOUNT. -/
def execRdXcount (s : State) : Host.Outcome State Fault Refusal := quietCycle s (xcountWord s)

/-- R114, WR_XCOUNT. -/
def execWrXcount (s : State) : Host.Outcome State Fault Refusal := errorCycle .bus s

/-- R115, RD_POS. -/
def execRdPos (s : State) : Host.Outcome State Fault Refusal := quietCycle s (posWord s)

/-- R116, WR_POS. -/
def execWrPos (s : State) : Host.Outcome State Fault Refusal := errorCycle .bus s

/-- R117, RD_CONFIG. -/
def execRdConfig (s : State) : Host.Outcome State Fault Refusal := quietCycle s (configWord s.config)

/-- R118, WR_CONFIG. -/
def execWrConfig (s : State) : Host.Outcome State Fault Refusal := errorCycle .bus s

/-- R119, RD_TIMING0. -/
def execRdTiming0 (s : State) : Host.Outcome State Fault Refusal := quietCycle s (timing0Word s.config)

/-- R120, WR_TIMING0. -/
def execWrTiming0 (s : State) : Host.Outcome State Fault Refusal := errorCycle .bus s

/-- R121, RD_TIMING1. -/
def execRdTiming1 (s : State) : Host.Outcome State Fault Refusal := quietCycle s (timing1Word s.config)

/-- R122, WR_TIMING1. -/
def execWrTiming1 (s : State) : Host.Outcome State Fault Refusal := errorCycle .bus s

/-- R123, RD_FCLK. -/
def execRdFclk (s : State) : Host.Outcome State Fault Refusal := quietCycle s (fclkWord s.config)

/-- R124, WR_FCLK. -/
def execWrFclk (s : State) : Host.Outcome State Fault Refusal := errorCycle .bus s

end Sys2Proof.Machine
end

