-- ==== Sys2Proof/Machine/Dispatch.lean ====
section
/-! DEFINITION. One cycle with `rst = 0` and the transaction `i` (41_bit_sequencer.md rule R83): the sequencer's step, the
row's writes over it, and the outputs of the cycle. -/

namespace Sys2Proof.Machine

def exec (i : Instr) (s : State) : Host.Outcome State Fault Refusal :=
  match i with
  | .idle _ _ _ => Sys2Proof.Machine.execIdle s
  | .badAlignOdd _ _ _ => Sys2Proof.Machine.execBadAlignOdd s
  | .badAlignHalf _ _ _ => Sys2Proof.Machine.execBadAlignHalf s
  | .rdCtrl _ => Sys2Proof.Machine.execRdCtrl s
  | .wrCtrl d => Sys2Proof.Machine.execWrCtrl d s
  | .rdCmd _ => Sys2Proof.Machine.execRdCmd s
  | .nop => Sys2Proof.Machine.execNop s
  | .transmit count => Sys2Proof.Machine.execTransmit count s
  | .cmdReserved _ => Sys2Proof.Machine.execCmdReserved s
  | .rdStatus _ => Sys2Proof.Machine.execRdStatus s
  | .wrStatus _ => Sys2Proof.Machine.execWrStatus s
  | .rdXcount _ => Sys2Proof.Machine.execRdXcount s
  | .wrXcount _ => Sys2Proof.Machine.execWrXcount s
  | .rdPos _ => Sys2Proof.Machine.execRdPos s
  | .wrPos _ => Sys2Proof.Machine.execWrPos s
  | .rdConfig _ => Sys2Proof.Machine.execRdConfig s
  | .wrConfig _ => Sys2Proof.Machine.execWrConfig s
  | .rdTiming0 _ => Sys2Proof.Machine.execRdTiming0 s
  | .wrTiming0 _ => Sys2Proof.Machine.execWrTiming0 s
  | .rdTiming1 _ => Sys2Proof.Machine.execRdTiming1 s
  | .wrTiming1 _ => Sys2Proof.Machine.execWrTiming1 s
  | .rdFclk _ => Sys2Proof.Machine.execRdFclk s
  | .wrFclk _ => Sys2Proof.Machine.execWrFclk s
  | .rdFb index _ => Sys2Proof.Machine.execRdFb index s
  | .wrFb index d => Sys2Proof.Machine.execWrFb index d s
  | .badAddr _ _ _ => Sys2Proof.Machine.execBadAddr s

end Sys2Proof.Machine
end

