-- ==== Sys2Proof/Machine/Invariants.lean ====
section
/-! DEFINITION. The invariants I1 to I10 of 10_state.md rule R43, which `step` asserts as the rule says a model may. -/

namespace Sys2Proof.Machine

abbrev State.I1 (s : State) : Prop := s.cnt.toNat ≤ s.config.nLeds
abbrev State.I2 (s : State) : Prop := s.led.toNat ≤ s.cnt.toNat
abbrev State.I3 (s : State) : Prop := s.phase = .bits → 0 < s.cnt.toNat → s.led.toNat < s.cnt.toNat
abbrev State.I4 (s : State) : Prop := s.cyc.toNat < s.config.tbitCyc
abbrev State.I5 (s : State) : Prop := s.rcnt.toNat < s.config.tresetCyc
abbrev State.I6 (s : State) : Prop := s.bit.toNat ≤ 23
abbrev State.I7 (s : State) : Prop := s.inh = true ↔ s.phase = .bits
abbrev State.I8 (s : State) : Prop := s.phase ≠ .idle → s.oe = true
abbrev State.I9 (s : State) : Prop := s.firstErr = 0#3 ↔ s.err = 0#6

/-- I1 to I9 of R43; I10 (`phase != 0b11`) holds of every term of `Phase` (log entry 7). -/
abbrev State.Invariants (s : State) : Prop :=
  s.I1 ∧ s.I2 ∧ s.I3 ∧ s.I4 ∧ s.I5 ∧ s.I6 ∧ s.I7 ∧ s.I8 ∧ s.I9

/-- The frame buffer holds exactly `N_LEDS` words (R41). -/
abbrev State.FbWf (s : State) : Prop := FrameBuffer.wf s.fb s.config.nLeds = true

/-- A block that exists: its configuration is valid (R18), its frame buffer has its length, and from the first `rst` cycle
on its registers keep R43. -/
abbrev State.Inv (s : State) : Prop :=
  s.config.Valid ∧ s.FbWf ∧ (s.rstSeen = true → s.Invariants)

end Sys2Proof.Machine
end

