-- ==== Sys2Proof/Machine/Step.lean ====
section
/-! DEFINITION. One rising edge of `clk` (41_bit_sequencer.md rule R83): the cycle's inputs, then the `rst` edge or the
transaction's. -/

namespace Sys2Proof.Machine

/-- The step of R83. It is refused where no block exists (R18) and where the run did not start with a `rst` cycle (R146),
and it faults in a state that breaks R43, which no run reaches. -/
def step (s : State) : Host.Outcome State Fault Refusal :=
  if ¬ s.config.Valid then .refused .invalidConfiguration
  else if (s.inputAt 0).rst = true then .next (rstEdge s.consumeInput)
  else if s.rstSeen = false then .refused .noResetYet
  else if ¬ s.Invariants then .fault .invariantBroken
  else exec (decodeWord (s.inputAt 0).word) s.consumeInput

/-- The host presents the word `w` in the next cycle, with `rst = 0` (log entry 4). -/
def State.withFetchWord (s : State) (nbits w : Nat) : State :=
  { s with script := { rst := false, word := BitVec.ofNat 47 (w % 2 ^ nbits) } :: s.script }

end Sys2Proof.Machine
end

