-- ==== Sys2Proof/Machine/Script.lean ====
section
/-! DEFINITION. Host scripts: the base forms and pseudo-instructions of 30_encoding.md rules R66 and R67, and the source's
call as a host sequence (40_commands.md rule R82). They are inputs of the machine, not part of it. -/

namespace Sys2Proof.Machine.Script

/-! ### Register names (20_memory.md rule R47) -/

def ctrl : Addr := 0x0000#13
def cmd : Addr := 0x0004#13
def status : Addr := 0x0008#13
def xcount : Addr := 0x000C#13
def pos : Addr := 0x0010#13
def config : Addr := 0x0014#13
def timing0 : Addr := 0x0018#13
def timing1 : Addr := 0x001C#13
def fclk : Addr := 0x0020#13

/-- `FB+4*i`. DESIGN CHOICE (log entry 18): R66 and R67 give no range for `i`, and for `i > 1023` no 13-bit address is
`FB+4*i`; there the sum is taken modulo 2^13, as `A` has 13 bits. No statement is about such an `i`. -/
def fbWord (i : Nat) : Addr := BitVec.ofNat 13 (0x1000 + 4 * i)

/-! ### Lines (R66); an ignored field is written as 0 (R60) -/

/-- A cycle with `rst = 1`. -/
def rst : BusCycle := { rst := true, word := 0#47 }

/-- `IDLE`. -/
def idle : BusCycle := { rst := false, word := packT false .read 0#13 0#32 }

/-- `RD addr`. -/
def rd (a : Addr) : BusCycle := { rst := false, word := packT true .read a 0#32 }

/-- `WR addr, data`. -/
def wr (a : Addr) (d : Word) : BusCycle := { rst := false, word := packT true .write a d }

/-- `IDLE n`, `n >= 1`; no line for `n = 0` (log entry 18). -/
def idles (n : Nat) : List BusCycle := List.replicate n idle

/-! ### Pseudo-instructions (R67) -/

/-- `NOP`. -/
def nop : BusCycle := wr cmd 0#32

/-- `TRANSMIT n`, `0 <= n <= 65535`; a larger `n` is cut to 16 bits (log entry 18). -/
def transmit (n : Nat) : BusCycle := wr cmd (BitVec.ofNat 32 n <<< 16 ||| 0x0001#32)

/-- `PINCFG b`. -/
def pincfg (b : Bool) : BusCycle := wr ctrl ((BitVec.ofBool b).setWidth 32)

/-- `PUTLED i, r, g, b`; for `i > 1023` see `fbWord` (log entry 18). -/
def putled (i : Nat) (r g b : Byte) : BusCycle :=
  wr (fbWord i) (r.setWidth 32 <<< 16 ||| g.setWidth 32 <<< 8 ||| b.setWidth 32)

/-- The host presents the line `c` in the next cycle. -/
def present (c : BusCycle) (s : State) : State := { s with script := c :: s.script }

/-- `POLL addr, mask, value`: the host reads `addr` once per cycle until the masked data is `value`, at most `reads` times.
The answer is the state after the read that ends the loop and how many reads were made; none if the reads run out or the
machine stops (log entry 16). -/
def poll (a : Addr) (mask value : Word) : Nat → State → Option (State × Nat)
  | 0, _ => none
  | reads + 1, s =>
    match step (present (rd a) s) with
    | .next t =>
      if t.out.busRdata &&& mask = value then some (t, 1)
      else (poll a mask value reads t).map (fun r => (r.1, r.2 + 1))
    | .fault _ => none
    | .refused _ => none

/-- `WAITIDLE`: `POLL STATUS, 0x1, 0x0`. -/
def waitIdle (reads : Nat) (s : State) : Option (State × Nat) := poll status 0x1#32 0x0#32 reads s

/-! ### The call `transmit(colors, count)` (R82) -/

/-- Step 1 of R82 from LED `i` on: one PUTLED for each color. "Words already holding those values may be skipped": the
host skips those of them that it chooses to (`skip`). -/
def putleds (skip : Nat → Bool) (fb : FrameBuffer) : Nat → List (Byte × Byte × Byte) → List BusCycle
  | _, [] => []
  | i, (r, g, b) :: rest =>
    if skip i = true ∧ FrameBuffer.read fb i = r ++ g ++ b then putleds skip fb (i + 1) rest
    else putled i r g b :: putleds skip fb (i + 1) rest

/-- Step 2 of R82: `PINCFG 1`, if CTRL.OE is not already 1. -/
def drivePin (oe : Bool) : List BusCycle := if oe = true then [] else [pincfg true]

/-- The lines of steps 1 to 3 of R82, where the frame buffer holds `fb` and CTRL.OE is `oe`; the source's precondition is
`count <= colors.length` (past it, log entry 18). -/
def callLines (skip : Nat → Bool) (fb : FrameBuffer) (oe : Bool) (colors : List (Byte × Byte × Byte)) (count : Nat) :
    List BusCycle :=
  putleds skip fb 0 (colors.take count) ++ drivePin oe ++ [transmit count]

/-- The host presents the given lines, one in each cycle; none if the machine stops. -/
def presentAll : List BusCycle → State → Option State
  | [], s => some s
  | c :: rest, s =>
    match step (present c s) with
    | .next t => presentAll rest t
    | .fault _ => none
    | .refused _ => none

/-- R82, steps 1 to 4. The call returns when the WAITIDLE ends: the answer is the state after the read that saw BUSY = 0,
and how many reads that took, at most `reads` (log entry 16). -/
def call (skip : Nat → Bool) (colors : List (Byte × Byte × Byte)) (count reads : Nat) (s : State) :
    Option (State × Nat) :=
  (presentAll (callLines skip s.fb s.oe colors count) s).bind (waitIdle reads)

end Sys2Proof.Machine.Script
end

