-- ==== Sys2Proof/Safety.lean ====
section
/-! DEFINITION. The terms claims about runs use: when a run has gone wrong or is finished, the host's duties, the system's
duty about interrupts, runs and their output traces, and the receiver decode that 41_bit_sequencer.md rule R98 gives as a
test oracle. None of it is part of the block. -/

namespace Sys2Proof.Safety

open Sys2Proof.Machine

/-! ### Runs (00_scope.md rule R6: one step per edge) -/

/-- `k` steps. -/
def run (k : Nat) (s : State) : Host.Outcome State Fault Refusal := Host.Core.run Sys2Proof.core k s

/-- The outputs of the next `k` cycles, shorter if the machine stops. -/
def trace : Nat → State → List Outputs
  | 0, _ => []
  | k + 1, s =>
    match step s with
    | .next t => t.out :: trace k t
    | .fault _ => []
    | .refused _ => []

/-- No `rst` cycle among the next `k`. -/
def NoRst (k : Nat) (s : State) : Prop := ∀ j, j < k → (s.inputAt j).rst = false

/-- A block after its first `rst` cycle that keeps R43. -/
abbrev Running (s : State) : Prop := s.Inv ∧ s.rstSeen = true

/-- In the coming cycle the host presents a TRANSMIT of `count` that the block accepts (R75, R76): the cycle is the `t0` of
41_bit_sequencer.md rule R93. -/
def Accepts (count : BitVec 16) (s : State) : Prop :=
  Running s ∧ (s.inputAt 0).rst = false ∧ decodeWord (s.inputAt 0).word = .transmit count ∧
    s.phase = .idle ∧ s.oe = true ∧ count.toNat ≤ s.config.nLeds

/-- In the coming cycle the host presents a TRANSMIT of `count` that the block refuses (R75, R77, R79, R80). -/
def Refuses (count : BitVec 16) (s : State) : Prop :=
  Running s ∧ (s.inputAt 0).rst = false ∧ decodeWord (s.inputAt 0).word = .transmit count ∧
    (s.phase ≠ .idle ∨ s.oe = false ∨ s.config.nLeds < count.toNat)

/-! ### Errors and the end of a run -/

/-- "A model treats a state with any error bit set as gone wrong" (R130). -/
abbrev GoneWrong (s : State) : Prop := s.err ≠ 0#6

/-- The code of the error that a transaction raises in the state `s` (R128), the first in the order of R131 where several
causes apply; none where it raises none. -/
def errorCode (s : State) : Instr → Option Nat
  | .idle _ _ _ => none
  | .badAlignOdd _ _ _ => some 1
  | .badAlignHalf _ _ _ => some 1
  | .rdCtrl _ => none
  | .wrCtrl _ => if busy s then some 3 else none
  | .rdCmd _ => none
  | .nop => none
  | .transmit count =>
    if busy s then some 3 else if !s.oe then some 4 else if s.config.nLeds < count.toNat then some 5 else none
  | .cmdReserved _ => some 2
  | .rdStatus _ => none
  | .wrStatus _ => some 1
  | .rdXcount _ => none
  | .wrXcount _ => some 1
  | .rdPos _ => none
  | .wrPos _ => some 1
  | .rdConfig _ => none
  | .wrConfig _ => some 1
  | .rdTiming0 _ => none
  | .wrTiming0 _ => some 1
  | .rdTiming1 _ => none
  | .wrTiming1 _ => some 1
  | .rdFclk _ => none
  | .wrFclk _ => some 1
  | .rdFb index _ => if s.config.nLeds ≤ index.toNat then some 1 else none
  | .wrFb index _ => if s.config.nLeds ≤ index.toNat then some 1 else if busy s then some 6 else none
  | .badAddr _ _ _ => some 1

/-- The first two conditions of R155. -/
abbrev Ended (s : State) : Prop := s.phase = .idle ∧ s.done = true

/-- The third condition of R155, in the cycle after `k` steps from `s`: every TRANSMIT presented since `s` has been accepted
or refused. One that the cycle itself presents has not been yet, and one presented in a `rst` cycle never is (R144), since
it has no effect and raises no error (log entry 17). -/
def NoTransmitPending (k : Nat) (s : State) : Prop :=
  ∀ j count, j ≤ k → decodeWord (s.inputAt j).word = .transmit count →
    j < k ∧ ∃ u, run j s = .next u ∧ (Accepts count u ∨ Refuses count u)

/-- The run from `s` is finished in the cycle after `k` steps (R155, D34). -/
def Finished (k : Nat) (s : State) : Prop := (∃ t, run k s = .next t ∧ Ended t) ∧ NoTransmitPending k s

/-! ### The host's duties (70_reset_and_hazards.md rule R150) -/

/-- H-D1 to H-D5: what a host that keeps them may present in the state `s`. -/
def keepsDuties (s : State) : Instr → Bool
  | .idle _ _ _ => true
  | .badAlignOdd _ _ _ => false
  | .badAlignHalf _ _ _ => false
  | .rdCtrl _ => true
  | .wrCtrl _ => !busy s
  | .rdCmd _ => true
  | .nop => true
  | .transmit count => !busy s && decide (count.toNat ≤ s.config.nLeds) && s.oe
  | .cmdReserved _ => false
  | .rdStatus _ => true
  | .wrStatus _ => false
  | .rdXcount _ => true
  | .wrXcount _ => false
  | .rdPos _ => true
  | .wrPos _ => false
  | .rdConfig _ => true
  | .wrConfig _ => false
  | .rdTiming0 _ => true
  | .wrTiming0 _ => false
  | .rdTiming1 _ => true
  | .wrTiming1 _ => false
  | .rdFclk _ => true
  | .wrFclk _ => false
  | .rdFb index _ => decide (index.toNat < s.config.nLeds)
  | .wrFb index _ => decide (index.toNat < s.config.nLeds) && !busy s
  | .badAddr _ _ _ => false

/-! ### The system's duty (60_exceptions.md rule R135) -/

/-- When the system delivers an interrupt to its processor (R135); the block cannot check it. -/
def delivered (pending cpuEnable irqInhibit : Bool) : Bool := pending && cpuEnable && !irqInhibit

/-! ### The receiver's decode (41_bit_sequencer.md rule R98) -/

/-- What the oracle reads from the levels of a driven line. -/
inductive Received where
  | bit (b : Bool)
  | frameEnd
deriving DecidableEq, Repr

/-- A maximal run of `h` high cycles is a 1 if `h * 10^9 >= THRESH_NS * F_CLK_HZ`, else a 0 (R98). -/
def bitOfRun (c : Config) (h : Nat) : Bool := decide (Config.threshNs * c.fClkHz ≤ h * 10 ^ 9)

/-- The oracle over `pin_out` levels, after a run of `high` high cycles (or, with `high = 0`, of `low` low cycles) so far.
A low run ends a frame in the cycle it reaches `TRESET_CYC` (log entry 17). -/
def receive (c : Config) : (high low : Nat) → List Bool → List Received
  | high, _, [] => if high = 0 then [] else [.bit (bitOfRun c high)]
  | high, _, true :: rest => receive c (high + 1) 0 rest
  | high, low, false :: rest =>
    (if high = 0 then [] else [.bit (bitOfRun c high)]) ++
      (if low + 1 = c.tresetCyc then [.frameEnd] else []) ++ receive c 0 (low + 1) rest

/-- The bits of a frame word in the order they are sent: `w[23]` first, `w[0]` last (R52). -/
def wordBits (v : Color) : List Bool := (List.range 24).map (fun k => v.getLsbD (23 - k))

/-- The bits of the first `n` frame-buffer words in the order they are sent (R93). -/
def frameBits (fb : FrameBuffer) (n : Nat) : List Bool :=
  (List.range n).flatMap (fun i => wordBits (FrameBuffer.read fb i))

end Sys2Proof.Safety
end

