-- ==== Sys2Proof/Certificates/Slice0/Obligations.lean ====
section
/-! DEFINITION. The statements for the provers, from the spec's numbered rules. In every statement `s` is the state before
the edge and `t` the state after it; `seq s` is the sequencer's step (41_bit_sequencer.md), which goes on in every cycle
with `rst = 0`. -/

open Sys2Proof Sys2Proof.Machine Sys2Proof.Safety

/-! ### Encoding -/

/-- Words that 30_encoding.md R68 and 95_test_vectors.md V-ENC write out decode to the lines they stand for. -/
def Obligations.WorkedWordsDecode : Prop :=
  decodeWord 0x000000000000#47 = .idle .read 0#13 0#32 ∧
  decodeWord 0x400900000000#47 = .badAlignOdd .read 0x0009#13 0#32 ∧
  decodeWord 0x600200000001#47 = .badAlignHalf .write 0x0002#13 1#32 ∧
  decodeWord 0x400000000000#47 = .rdCtrl 0#32 ∧
  decodeWord 0x600000000001#47 = .wrCtrl 1#32 ∧
  decodeWord 0x600400000000#47 = .nop ∧
  decodeWord 0x600400030001#47 = .transmit 3#16 ∧
  decodeWord 0x600400010000#47 = .cmdReserved 0x00010000#32 ∧
  decodeWord 0x400800000000#47 = .rdStatus 0#32 ∧
  decodeWord 0x70040000FF00#47 = .wrFb 1#10 0x0000FF00#32 ∧
  decodeWord 0x500800000000#47 = .rdFb 2#10 0#32 ∧
  decodeWord 0x6FFC00000001#47 = .badAddr .write 0x0FFC#13 1#32

/-- Decode of encode of every well-formed instruction is that instruction, its ignored fields too: that a constructor keeps
them is the model's choice (log entry 12). -/
def Obligations.EncodeThenDecodeGivesInstruction : Prop :=
  ∀ i : Instr, i.wf = true → decodeWord (encode i) = i

/-- Every word decodes to a well-formed instruction that encodes to the same word: no bit is dropped. That the bits the
block ignores (R60) come back too is the model's choice: a constructor keeps them (log entry 12). -/
def Obligations.DecodeThenEncodeGivesWord : Prop :=
  ∀ w : Transaction, (decodeWord w).wf = true ∧ encode (decodeWord w) = w

/-- R63: the decoder's row is the first row of opcode_table.json that matches, and every word has one. -/
def Obligations.DecodeTakesFirstMatchingRow : Prop :=
  ∀ w : Transaction, firstRow w = some (decodeWord w).row

/-- Bytes decode exactly when they are six with bit 47 clear, and an instruction's own bytes give it back. The byte layout
is the model's choice (log entry 11). -/
def Obligations.BytesDecodeExactlyWhenTransaction : Prop :=
  (∀ bs : List Byte, (∃ i, decodeBytes bs = .ok i) ↔ (bs.length = 6 ∧ bytesToNat bs < 2 ^ 47)) ∧
  (∀ i : Instr, i.wf = true → decodeBytes (encodeBytes i) = .ok i) ∧
  (∀ w : Nat, w < 2 ^ 47 → decodeTableWord 48 w = some (decodeWord (BitVec.ofNat 47 w)))

/-- R67: the pseudo-instructions stand for the transactions the table gives. -/
def Obligations.PseudoInstructionsDecode : Prop :=
  decodeWord Script.nop.word = .nop ∧
  (∀ n, n < 2 ^ 16 → decodeWord (Script.transmit n).word = .transmit (BitVec.ofNat 16 n)) ∧
  (∀ b, ∃ d, decodeWord (Script.pincfg b).word = .wrCtrl d ∧ oeOperand d = b) ∧
  (∀ i, i < 1024 → ∀ r g b : Byte, ∃ d, decodeWord (Script.putled i r g b).word = .wrFb (BitVec.ofNat 10 i) d ∧
    colorOperand d = r ++ g ++ b)

/-! ### The step -/

/-- A cycle with `rst = 0` runs the instruction its word decodes to, on the state whose input has moved on. The clauses on
`script` and `hostDraws` are the model's own way to hold the host's cycles, not the spec's (log entry 3: DEDUCED, and
`hostDraws` a DESIGN CHOICE). -/
def Obligations.StepRunsDecodedInstruction : Prop :=
  ∀ (s : State) (i : Instr), Running s → (s.inputAt 0).rst = false → decodeWord (s.inputAt 0).word = i →
    step s = exec i s.consumeInput ∧
    (∀ c rest, s.script = c :: rest → s.inputAt 0 = c ∧ s.consumeInput = { s with script := rest }) ∧
    (s.script = [] → s.consumeInput = { s with hostDraws := s.hostDraws + 1 })

/-- R144: what a `rst` cycle leaves, whatever the state and the transaction, and that the next cycle runs normally. The
clause on `rstSeen` is about the model's own bit, not the spec's (log entry 13). -/
def Obligations.RstCycleResets : Prop :=
  ∀ s : State, s.config.Valid → s.FbWf → (s.inputAt 0).rst = true →
    ∃ t, step s = .next t ∧
      t.phase = .idle ∧ t.cnt = 0#11 ∧ t.led = 0#11 ∧ t.bit = 0#5 ∧ t.cyc = 0#8 ∧ t.rcnt = 0#24 ∧ t.w = 0#24 ∧
      t.inh = false ∧ t.done = false ∧ t.oe = false ∧ t.err = 0#6 ∧ t.firstErr = 0#3 ∧
      t.fb = s.fb ∧ t.config = s.config ∧ t.rstSeen = true ∧
      t.out.busRdata = 0#32 ∧ t.out.pinOe = false ∧ t.out.pinOut = false ∧ t.out.irqInhibit = false ∧
      ((t.inputAt 0).rst = false → ∃ u, step t = .next u ∧ u.out.pinOe = false)

/-- When a step goes on and when it stops (R18, R43, R146): the stops are the model's form of "no block exists",
"unreachable" and "a model refuses" (log entries 8, 10 and 13; `rstSeen` is the model's own bit). -/
def Obligations.StepStopsExactly : Prop :=
  ∀ s : State,
    ((∃ t, step s = .next t) ↔
      s.config.Valid ∧ ((s.inputAt 0).rst = true ∨ (s.rstSeen = true ∧ s.Invariants))) ∧
    (step s = .refused .invalidConfiguration ↔ ¬ s.config.Valid) ∧
    (step s = .refused .noResetYet ↔ s.config.Valid ∧ (s.inputAt 0).rst = false ∧ s.rstSeen = false) ∧
    (step s = .fault .invariantBroken ↔
      s.config.Valid ∧ (s.inputAt 0).rst = false ∧ s.rstSeen = true ∧ ¬ s.Invariants)

/-- The reset states: registers of R44 at their values, and every register the host reads as R44 gives it. That a frame
buffer position at or past `N_LEDS` reads as the free value too is the model's choice (log entry 5). -/
def Obligations.ResetValues : Prop :=
  ∀ c : Config,
    let s := State.resetWith c
    s.phase = .idle ∧ s.cnt = 0#11 ∧ s.led = 0#11 ∧ s.bit = 0#5 ∧ s.cyc = 0#8 ∧ s.rcnt = 0#24 ∧ s.w = 0#24 ∧
    s.inh = false ∧ s.done = false ∧ s.oe = false ∧ s.err = 0#6 ∧ s.firstErr = 0#3 ∧
    statusWord s = 0#32 ∧ xcountWord s = 0#32 ∧ posWord s = 0#32 ∧
    (∀ i, FrameBuffer.read s.fb i = Config.powerOnWord i)

/-! ### Invariants -/

/-- R43 holds after reset, for every valid configuration. -/
def Obligations.InvariantsHoldAtReset : Prop :=
  (∀ c : Config, c.Valid → Running (State.resetWith c)) ∧ Running State.reset

/-- R43: every cycle keeps I1 to I10, whatever the transaction; so does every step from a state that keeps them. `Running`
says "after the first `rst` cycle" by the model's own bit `rstSeen` (log entry 13). -/
def Obligations.EveryCycleKeepsInvariants : Prop :=
  (∀ (i : Instr) (s t : State), Running s → exec i s = .next t → Running t ∧ t.phase.code ≠ 0b11#2) ∧
  (∀ s t : State, s.Inv → step s = .next t → Running t ∧ t.phase.code ≠ 0b11#2)

/-- From a running block every number of steps goes on: no state is stuck. -/
def Obligations.RunsNeverStop : Prop :=
  ∀ (k : Nat) (s : State), Running s → ∃ t, run k s = .next t ∧ Running t

/-- R27, R55: during BITS the latched word is the word the frame buffer holds for the LED being sent. -/
def Obligations.LatchedWordStaysFrameBufferWord : Prop :=
  ∀ s t : State, Running s → (s.phase = .bits → s.w = FrameBuffer.read s.fb s.led.toNat) → step s = .next t →
    (t.phase = .bits → t.w = FrameBuffer.read t.fb t.led.toNat)

/-- R30, R115: the position the sequencer rests at outside the slots. Each clause goes on holding, given all of them. -/
def Obligations.RestPositionIsKept : Prop :=
  ∀ s t : State, Running s → step s = .next t →
    ((s.phase ≠ .reset → s.rcnt = 0#24) ∧
      (s.phase ≠ .bits → s.cyc = 0#8 ∧ s.led = s.cnt ∧ (0 < s.cnt.toNat → s.bit = 0#5)) ∧
      (s.phase = .bits → s.cnt.toNat = 0 → s.cyc = 0#8 ∧ s.led = 0#11 ∧ s.bit = 23#5)) →
    ((t.phase ≠ .reset → t.rcnt = 0#24) ∧
      (t.phase ≠ .bits → t.cyc = 0#8 ∧ t.led = t.cnt ∧ (0 < t.cnt.toNat → t.bit = 0#5)) ∧
      (t.phase = .bits → t.cnt.toNat = 0 → t.cyc = 0#8 ∧ t.led = 0#11 ∧ t.bit = 23#5))

/-- R7: no run changes the configuration or resizes the frame buffer. -/
def Obligations.RunsKeepConfigurationAndSize : Prop :=
  ∀ (k : Nat) (s t : State), run k s = .next t → t.config = s.config ∧ t.fb.length = s.fb.length

/-! ### The configuration -/

/-- R17, R10: the derived counts are the nearest integers, halves going up, and the least integer not below. -/
def Obligations.DerivedCountsAreRounded : Prop :=
  ∀ c : Config,
    (∀ p : Nat × Nat, p ∈ [(400, c.t0hCyc), (850, c.t1hCyc), (1300, c.tbitCyc)] →
      2 * (p.2 * 10 ^ 9) ≤ 2 * (p.1 * c.fClkHz) + 10 ^ 9 ∧ 2 * (p.1 * c.fClkHz) < 2 * (p.2 * 10 ^ 9) + 10 ^ 9) ∧
    50000 * c.fClkHz ≤ c.tresetCyc * 10 ^ 9 ∧ c.tresetCyc * 10 ^ 9 < 50000 * c.fClkHz + 10 ^ 9

/-- R19: the slot of every valid class lasts between 1235 and 1365 ns, those of two classes differ by at most 130 ns, and
the high times stand on their sides of 625 ns. -/
def Obligations.SlotDurationWithinTolerance : Prop :=
  (∀ c : Config, c.Valid →
    1235 * c.fClkHz ≤ c.tbitCyc * 10 ^ 9 ∧ c.tbitCyc * 10 ^ 9 ≤ 1365 * c.fClkHz ∧
    c.t0hCyc * 10 ^ 9 < 625 * c.fClkHz ∧ 625 * c.fClkHz ≤ c.t1hCyc * 10 ^ 9) ∧
  (∀ c d : Config, c.Valid → d.Valid →
    c.tbitCyc * 10 ^ 9 * d.fClkHz ≤ d.tbitCyc * 10 ^ 9 * c.fClkHz + 130 * (c.fClkHz * d.fClkHz))

/-! ### Reads -/

/-- R105, R74, R110: IDLE, NOP and a read of CMD complete in every state, change nothing but by the sequencer, and give
read data 0. -/
def Obligations.QuietTransactionsComplete : Prop :=
  ∀ (s : State) (acc : Access) (a : Addr) (d : Word),
    ∀ i ∈ [Instr.idle acc a d, .nop, .rdCmd d],
      exec i s = .next { seq s with out := { outputs s false 0#32 with busRdata := 0#32 } }

/-- R34, R111: a read of STATUS completes in every state, changes nothing, and gives the bits of R34's table. -/
def Obligations.StatusReadGivesItsFields : Prop :=
  ∀ (s : State) (d : Word), ∃ r : Word,
    exec (.rdStatus d) s = .next { seq s with out := { outputs s false 0#32 with busRdata := r } } ∧
    r.getLsbD 0 = decide (s.phase ≠ .idle) ∧
    r.extractLsb' 1 2 = (match s.phase with | .idle => 0b00#2 | .bits => 0b01#2 | .reset => 0b10#2) ∧
    r.getLsbD 3 = s.done ∧ r.getLsbD 4 = s.inh ∧ r.extractLsb' 5 3 = 0#3 ∧
    (∀ k, 1 ≤ k → k ≤ 6 → r.getLsbD (7 + k) = s.err.getLsbD (k - 1)) ∧
    r.extractLsb' 14 2 = 0#2 ∧ r.extractLsb' 16 3 = s.firstErr ∧ r.extractLsb' 19 13 = 0#13

/-- R108, R113 (R35), R115 (R36): reads of CTRL, XCOUNT and POS complete in every state, change nothing, and give their
fields. -/
def Obligations.StateRegisterReadsGiveTheirFields : Prop :=
  ∀ (s : State) (d : Word),
    (∃ r : Word, exec (.rdCtrl d) s = .next { seq s with out := { outputs s false 0#32 with busRdata := r } } ∧
      r.getLsbD 0 = s.oe ∧ r.extractLsb' 1 31 = 0#31) ∧
    (∃ r : Word, exec (.rdXcount d) s = .next { seq s with out := { outputs s false 0#32 with busRdata := r } } ∧
      r.extractLsb' 0 11 = s.cnt ∧ r.extractLsb' 11 21 = 0#21) ∧
    (∃ r : Word, exec (.rdPos d) s = .next { seq s with out := { outputs s false 0#32 with busRdata := r } } ∧
      r.extractLsb' 0 11 = s.led ∧ r.extractLsb' 11 5 = 0#5 ∧ r.extractLsb' 16 5 = s.bit ∧
      r.extractLsb' 21 3 = 0#3 ∧ r.extractLsb' 24 8 = s.cyc)

/-- R37 to R40: in a valid configuration, reads of CONFIG, TIMING0, TIMING1 and FCLK complete in every state, change
nothing, and their fields are the configuration's numbers, none cut off. -/
def Obligations.ConstantRegisterReadsGiveTheirFields : Prop :=
  ∀ (s : State) (d : Word), s.config.Valid →
    (∃ r : Word, exec (.rdConfig d) s = .next { seq s with out := { outputs s false 0#32 with busRdata := r } } ∧
      (r.extractLsb' 0 11).toNat = s.config.nLeds ∧ r.extractLsb' 11 5 = 0#5 ∧
      (r.extractLsb' 16 8).toNat = s.config.pinId ∧ r.extractLsb' 24 8 = 0#8) ∧
    (∃ r : Word, exec (.rdTiming0 d) s = .next { seq s with out := { outputs s false 0#32 with busRdata := r } } ∧
      (r.extractLsb' 0 8).toNat = s.config.t0hCyc ∧ (r.extractLsb' 8 8).toNat = s.config.t1hCyc ∧
      (r.extractLsb' 16 8).toNat = s.config.tbitCyc ∧ r.extractLsb' 24 8 = 0#8) ∧
    (∃ r : Word, exec (.rdTiming1 d) s = .next { seq s with out := { outputs s false 0#32 with busRdata := r } } ∧
      (r.extractLsb' 0 24).toNat = s.config.tresetCyc ∧ r.extractLsb' 24 8 = 0#8) ∧
    (∃ r : Word, exec (.rdFclk d) s = .next { seq s with out := { outputs s false 0#32 with busRdata := r } } ∧
      r.toNat = s.config.fClkHz)

/-- R125: a read of the frame buffer completes in every state, BUSY or not; an index outside it raises ERR_BUS and reads
0. -/
def Obligations.FrameBufferReadGivesItsWord : Prop :=
  ∀ (s : State) (index : BitVec 10) (d : Word),
    (index.toNat < s.config.nLeds → ∃ r : Word,
      exec (.rdFb index d) s = .next { seq s with out := { outputs s false 0#32 with busRdata := r } } ∧
      r.extractLsb' 0 24 = FrameBuffer.read s.fb index.toNat ∧ r.extractLsb' 24 8 = 0#8) ∧
    (s.config.nLeds ≤ index.toNat →
      exec (.rdFb index d) s = .next { seq s with
        err := s.err ||| 0b000001#6
        firstErr := if s.firstErr = 0#3 then 1#3 else s.firstErr
        out := { outputs s false 0#32 with busRdata := 0#32 } })

/-! ### Errors -/

/-- R106, R107, R112 to R127: every illegal access completes in every state, raises ERR_BUS (code 1), reads 0, and changes
nothing else. -/
def Obligations.IllegalAccessesRaiseBusError : Prop :=
  ∀ (s : State) (acc : Access) (a : Addr) (d : Word),
    ∀ i ∈ [Instr.badAlignOdd acc a d, .badAlignHalf acc a d, .wrStatus d, .wrXcount d, .wrPos d, .wrConfig d,
        .wrTiming0 d, .wrTiming1 d, .wrFclk d, .badAddr acc a d],
      exec i s = .next { seq s with
        err := s.err ||| 0b000001#6
        firstErr := if s.firstErr = 0#3 then 1#3 else s.firstErr
        out := { outputs s false 0#32 with busRdata := 0#32 } }

/-- R78: a reserved command completes in every phase, raises ERR_CMD (code 2) and changes nothing else. -/
def Obligations.ReservedCommandRaisesCmdError : Prop :=
  ∀ (s : State) (d : Word),
    exec (.cmdReserved d) s = .next { seq s with
      err := s.err ||| 0b000010#6
      firstErr := if s.firstErr = 0#3 then 2#3 else s.firstErr
      out := { outputs s false 0#32 with busRdata := 0#32 } }

/-- R129: a transaction that raises an error of code `k`, be its bit set already or not, sets bit `k`, and FIRST_ERR if it
was 0, and writes nothing else: the state is otherwise the sequencer's step. One that raises none leaves the record. -/
def Obligations.ErrorRecordsItsBitAlone : Prop :=
  ∀ (i : Instr) (s : State), ∃ t, exec i s = .next t ∧
    (errorCode s i = none → t.err = s.err ∧ t.firstErr = s.firstErr) ∧
    (∀ k, errorCode s i = some k → 1 ≤ k ∧ k ≤ 6 ∧
      t = { seq s with
        err := s.err ||| (1#6 <<< (k - 1))
        firstErr := if s.firstErr = 0#3 then BitVec.ofNat 3 k else s.firstErr
        out := { outputs s false 0#32 with busRdata := 0#32 } })

/-- R131: a transaction raises at most one error, and where several causes apply, the first in the order. -/
def Obligations.ErrorPriority : Prop :=
  ∀ (s : State) (count : BitVec 16) (index : BitVec 10) (d : Word),
    (∀ i t, exec i s = .next t → t.err = s.err ∨ ∃ k, k < 6 ∧ t.err = s.err ||| (1#6 <<< k)) ∧
    (s.phase ≠ .idle → s.config.nLeds < count.toNat →
      ∃ t, exec (.transmit count) s = .next t ∧ t.err = s.err ||| 0b000100#6) ∧
    (s.phase = .idle → s.oe = false → s.config.nLeds < count.toNat →
      ∃ t, exec (.transmit count) s = .next t ∧ t.err = s.err ||| 0b001000#6) ∧
    (s.phase ≠ .idle → s.config.nLeds ≤ index.toNat →
      ∃ t, exec (.wrFb index d) s = .next t ∧ t.err = s.err ||| 0b000001#6) ∧
    (s.phase ≠ .idle → ∃ t, exec (.cmdReserved d) s = .next t ∧ t.err = s.err ||| 0b000010#6)

/-- R130: no run without a `rst` cycle clears an error bit or changes a FIRST_ERR that is set. -/
def Obligations.ErrorsAreSticky : Prop :=
  ∀ (k : Nat) (s t : State), NoRst k s → run k s = .next t →
    (∀ j, s.err.getLsbD j = true → t.err.getLsbD j = true) ∧ (s.firstErr ≠ 0#3 → t.firstErr = s.firstErr)

/-- R130: the error record does not change what a transaction does, except to itself and to a read of it. -/
def Obligations.ErrorsBlockNothing : Prop :=
  ∀ (i : Instr) (s : State) (e : BitVec 6) (f : BitVec 3), ∃ t u : State,
    exec i s = .next t ∧ exec i { s with err := e, firstErr := f } = .next u ∧
    u = { t with err := u.err, firstErr := u.firstErr, out := { t.out with busRdata := u.out.busRdata } }

/-- R150: a host that keeps H-D1 to H-D5 raises no error, and one that breaks one of them records an error. -/
def Obligations.HostDutiesDecideErrors : Prop :=
  ∀ (i : Instr) (s t : State), exec i s = .next t →
    (keepsDuties s i = true → t.err = s.err ∧ t.firstErr = s.firstErr) ∧
    (keepsDuties s i = false → GoneWrong t)

/-! ### Writes and commands -/

/-- R109: a write of CTRL while IDLE sets OE to `D[0]` and changes nothing else; while BUSY it is dropped with ERR_BUSY
(code 3). -/
def Obligations.CtrlWriteSetsOutputEnable : Prop :=
  ∀ (s : State) (d : Word),
    (s.phase = .idle →
      exec (.wrCtrl d) s =
        .next { s with oe := d.getLsbD 0, out := { outputs s false 0#32 with busRdata := 0#32 } }) ∧
    (s.phase ≠ .idle →
      exec (.wrCtrl d) s = .next { seq s with
        err := s.err ||| 0b000100#6
        firstErr := if s.firstErr = 0#3 then 3#3 else s.firstErr
        out := { outputs s false 0#32 with busRdata := 0#32 } })

/-- R76 (with R75): a TRANSMIT while IDLE with OE = 1 and a count within the buffer is accepted: the listed registers are
written and nothing else is. -/
def Obligations.TransmitIsAccepted : Prop :=
  ∀ (s : State) (count : BitVec 16), s.config.Valid → s.phase = .idle → s.oe = true →
    count.toNat ≤ s.config.nLeds → ∃ n : BitVec 11, n.toNat = count.toNat ∧
      exec (.transmit count) s = .next { s with
        phase := .bits
        inh := true
        cnt := n
        led := 0#11
        bit := 23#5
        cyc := 0#8
        rcnt := 0#24
        w := FrameBuffer.read s.fb 0
        done := false
        out := { outputs s false 0#32 with busRdata := 0#32 } }

/-- R77, R79, R80: a TRANSMIT while BUSY records ERR_BUSY, one with OE = 0 ERR_PIN, one with too large a count ERR_COUNT;
nothing else of it takes effect. -/
def Obligations.TransmitIsRefused : Prop :=
  ∀ (s : State) (count : BitVec 16),
    (s.phase ≠ .idle →
      exec (.transmit count) s = .next { seq s with
        err := s.err ||| 0b000100#6
        firstErr := if s.firstErr = 0#3 then 3#3 else s.firstErr
        out := { outputs s false 0#32 with busRdata := 0#32 } }) ∧
    (s.phase = .idle → s.oe = false →
      exec (.transmit count) s = .next { s with
        err := s.err ||| 0b001000#6
        firstErr := if s.firstErr = 0#3 then 4#3 else s.firstErr
        out := { outputs s false 0#32 with busRdata := 0#32 } }) ∧
    (s.phase = .idle → s.oe = true → s.config.nLeds < count.toNat →
      exec (.transmit count) s = .next { s with
        err := s.err ||| 0b010000#6
        firstErr := if s.firstErr = 0#3 then 5#3 else s.firstErr
        out := { outputs s false 0#32 with busRdata := 0#32 } })

/-- R126: a write of the frame buffer while IDLE stores `D[23:0]` at its index and leaves every other word; while BUSY it
is dropped with ERR_FBWR (code 6); an index outside the buffer raises ERR_BUS (code 1) in any phase. -/
def Obligations.FrameBufferWriteStoresItsWord : Prop :=
  ∀ (s : State) (index : BitVec 10) (d : Word), s.FbWf →
    (index.toNat < s.config.nLeds → s.phase = .idle → ∃ fb : FrameBuffer,
      exec (.wrFb index d) s =
        .next { s with fb := fb, out := { outputs s false 0#32 with busRdata := 0#32 } } ∧
      fb.length = s.fb.length ∧ FrameBuffer.read fb index.toNat = d.extractLsb' 0 24 ∧
      (∀ a, a ≠ indexOperand index → FrameBuffer.read fb a = FrameBuffer.read s.fb a)) ∧
    (index.toNat < s.config.nLeds → s.phase ≠ .idle →
      exec (.wrFb index d) s = .next { seq s with
        err := s.err ||| 0b100000#6
        firstErr := if s.firstErr = 0#3 then 6#3 else s.firstErr
        out := { outputs s false 0#32 with busRdata := 0#32 } }) ∧
    (s.config.nLeds ≤ index.toNat →
      exec (.wrFb index d) s = .next { seq s with
        err := s.err ||| 0b000001#6
        firstErr := if s.firstErr = 0#3 then 1#3 else s.firstErr
        out := { outputs s false 0#32 with busRdata := 0#32 } })

/-- R54, R151: a frame-buffer word written in one cycle is read in the next. -/
def Obligations.WrittenWordIsReadNextCycle : Prop :=
  ∀ (s t : State) (index : BitVec 10) (d d' : Word), s.FbWf → s.phase = .idle → index.toNat < s.config.nLeds →
    exec (.wrFb index d) s = .next t →
    ∃ u, exec (.rdFb index d') t = .next u ∧ u.out.busRdata = d &&& 0x00FFFFFF#32

/-! ### Frames -/

/-- What every transaction but WR_CTRL, an accepted TRANSMIT and WR_FB leaves: all registers as the sequencer leaves them,
OE, the configuration and every frame-buffer word unchanged; and the legal ones leave the error record too. The clauses on
`config`, `script`, `hostDraws` and `rstSeen` are about the model's own fields (log entries 1, 3 and 13). -/
def Obligations.ReadsAndRefusedAccessesFrame : Prop :=
  ∀ (s t : State) (acc : Access) (a : Addr) (index : BitVec 10) (d : Word),
    (∀ i ∈ [Instr.idle acc a d, .badAlignOdd acc a d, .badAlignHalf acc a d, .rdCtrl d, .rdCmd d, .nop, .cmdReserved d,
        .rdStatus d, .wrStatus d, .rdXcount d, .wrXcount d, .rdPos d, .wrPos d, .rdConfig d, .wrConfig d, .rdTiming0 d,
        .wrTiming0 d, .rdTiming1 d, .wrTiming1 d, .rdFclk d, .wrFclk d, .rdFb index d, .badAddr acc a d],
      exec i s = .next t →
        t.phase = (seq s).phase ∧ t.cnt = (seq s).cnt ∧ t.led = (seq s).led ∧ t.bit = (seq s).bit ∧
        t.cyc = (seq s).cyc ∧ t.rcnt = (seq s).rcnt ∧ t.w = (seq s).w ∧ t.inh = (seq s).inh ∧ t.done = (seq s).done ∧
        t.oe = s.oe ∧ t.config = s.config ∧ t.script = s.script ∧ t.hostDraws = s.hostDraws ∧ t.rstSeen = s.rstSeen ∧
        (∀ j, FrameBuffer.read t.fb j = FrameBuffer.read s.fb j)) ∧
    (∀ i ∈ [Instr.idle acc a d, .rdCtrl d, .rdCmd d, .nop, .rdStatus d, .rdXcount d, .rdPos d, .rdConfig d,
        .rdTiming0 d, .rdTiming1 d, .rdFclk d],
      exec i s = .next t → t.err = s.err ∧ t.firstErr = s.firstErr)

/-- What WR_CTRL, TRANSMIT and WR_FB leave besides what they write. The clauses on `config`, `script`, `hostDraws` and
`rstSeen` are about the model's own fields (log entries 1, 3 and 13). -/
def Obligations.WritesFrame : Prop :=
  ∀ (s t : State) (index : BitVec 10) (count : BitVec 16) (d : Word),
    (exec (.wrCtrl d) s = .next t →
      t.phase = (seq s).phase ∧ t.cnt = (seq s).cnt ∧ t.led = (seq s).led ∧ t.bit = (seq s).bit ∧
      t.cyc = (seq s).cyc ∧ t.rcnt = (seq s).rcnt ∧ t.w = (seq s).w ∧ t.inh = (seq s).inh ∧ t.done = (seq s).done ∧
      t.config = s.config ∧ t.script = s.script ∧ t.hostDraws = s.hostDraws ∧ t.rstSeen = s.rstSeen ∧
      (∀ j, FrameBuffer.read t.fb j = FrameBuffer.read s.fb j) ∧
      (s.phase = .idle → t.err = s.err ∧ t.firstErr = s.firstErr) ∧ (s.phase ≠ .idle → t.oe = s.oe)) ∧
    (exec (.transmit count) s = .next t →
      t.oe = s.oe ∧ t.config = s.config ∧ t.script = s.script ∧ t.hostDraws = s.hostDraws ∧ t.rstSeen = s.rstSeen ∧
      (∀ j, FrameBuffer.read t.fb j = FrameBuffer.read s.fb j) ∧
      (t.phase = (seq s).phase → t.cnt = s.cnt ∧ t.led = (seq s).led ∧ t.bit = (seq s).bit ∧ t.cyc = (seq s).cyc ∧
        t.rcnt = (seq s).rcnt ∧ t.w = (seq s).w ∧ t.inh = (seq s).inh ∧ t.done = (seq s).done) ∧
      (t.phase ≠ (seq s).phase → t.err = s.err ∧ t.firstErr = s.firstErr)) ∧
    (exec (.wrFb index d) s = .next t →
      t.phase = (seq s).phase ∧ t.cnt = (seq s).cnt ∧ t.led = (seq s).led ∧ t.bit = (seq s).bit ∧
      t.cyc = (seq s).cyc ∧ t.rcnt = (seq s).rcnt ∧ t.w = (seq s).w ∧ t.inh = (seq s).inh ∧ t.done = (seq s).done ∧
      t.oe = s.oe ∧ t.config = s.config ∧ t.script = s.script ∧ t.hostDraws = s.hostDraws ∧ t.rstSeen = s.rstSeen ∧
      (∀ j, j ≠ indexOperand index → FrameBuffer.read t.fb j = FrameBuffer.read s.fb j) ∧
      (s.phase = .idle → index.toNat < s.config.nLeds → t.err = s.err ∧ t.firstErr = s.firstErr))

/-- R41, R55: a step changes a frame-buffer word only by a WR_FB of that word, with `rst = 0`, while IDLE, to the word
written. -/
def Obligations.OnlyIdleHostWritesChangeFrameBuffer : Prop :=
  ∀ (s t : State) (a : Nat), step s = .next t → FrameBuffer.read t.fb a ≠ FrameBuffer.read s.fb a →
    (s.inputAt 0).rst = false ∧ s.phase = .idle ∧ a < s.config.nLeds ∧
    ∃ index d, decodeWord (s.inputAt 0).word = .wrFb index d ∧ index.toNat = a ∧
      FrameBuffer.read t.fb a = d.extractLsb' 0 24

/-! ### The outputs -/

/-- R91: the pin and the interrupt inhibit of a cycle, whatever the transaction. -/
def Obligations.OutputsFollowState : Prop :=
  ∀ (i : Instr) (s : State), ∃ t, exec i s = .next t ∧
    t.out.pinOe = s.oe ∧ t.out.irqInhibit = s.inh ∧
    (t.out.pinOut = true ↔ s.phase = .bits ∧ 0 < s.cnt.toNat ∧
      s.cyc.toNat < (if s.w.getLsbD s.bit.toNat = true then s.config.t1hCyc else s.config.t0hCyc))

/-- R134, R135: during BITS a system that gates its interrupts by `irq_inhibit` delivers none; outside BITS it delivers as
its processor's enable says. -/
def Obligations.InterruptsHeldDuringBits : Prop :=
  ∀ (i : Instr) (s t : State) (pending cpuEnable : Bool), Running s → exec i s = .next t →
    (s.phase = .bits → delivered pending cpuEnable t.out.irqInhibit = false) ∧
    (s.phase ≠ .bits → delivered pending cpuEnable t.out.irqInhibit = (pending && cpuEnable))

/-! ### The sequencer -/

/-- R84: while IDLE the sequencer holds, and only an accepted TRANSMIT leaves IDLE. -/
def Obligations.IdleHoldsUntilTransmit : Prop :=
  ∀ (i : Instr) (s t : State), s.phase = .idle → exec i s = .next t →
    seq s = s ∧
    (t.phase ≠ .idle → ∃ count, i = .transmit count ∧ s.oe = true ∧ count.toNat ≤ s.config.nLeds ∧ t.phase = .bits)

/-- R85: the empty BITS cycle, whatever the transaction. -/
def Obligations.EmptyBitsCycleStartsReset : Prop :=
  ∀ (i : Instr) (s : State), s.phase = .bits → s.cnt.toNat = 0 → ∃ t, exec i s = .next t ∧
    t.phase = .reset ∧ t.inh = false ∧ t.rcnt = 0#24 ∧ t.cnt = s.cnt ∧ t.led = s.led ∧ t.bit = s.bit ∧ t.cyc = s.cyc ∧
    t.w = s.w ∧ t.done = s.done ∧ t.out.pinOut = false

/-- R86: inside a slot and at the end of one that is not the last, whatever the transaction. `rcnt` is kept in R86's three
cases; the end of the last slot, where R87 writes it, is `LastSlotStartsReset`. -/
def Obligations.SlotsAdvanceBitByBit : Prop :=
  ∀ (i : Instr) (s : State), Running s → s.phase = .bits → 0 < s.cnt.toNat → ∃ t, exec i s = .next t ∧
    (s.cyc.toNat < s.config.tbitCyc - 1 →
      t.cyc.toNat = s.cyc.toNat + 1 ∧ t.bit = s.bit ∧ t.led = s.led ∧ t.w = s.w ∧ t.phase = .bits ∧ t.inh = s.inh) ∧
    (s.cyc.toNat = s.config.tbitCyc - 1 → 0 < s.bit.toNat →
      t.cyc = 0#8 ∧ t.bit.toNat = s.bit.toNat - 1 ∧ t.led = s.led ∧ t.w = s.w ∧ t.phase = .bits ∧ t.inh = s.inh) ∧
    (s.cyc.toNat = s.config.tbitCyc - 1 → s.bit.toNat = 0 → s.led.toNat + 1 < s.cnt.toNat →
      t.cyc = 0#8 ∧ t.bit = 23#5 ∧ t.led.toNat = s.led.toNat + 1 ∧
      t.w = FrameBuffer.read s.fb (s.led.toNat + 1) ∧ t.phase = .bits ∧ t.inh = s.inh) ∧
    (s.cyc.toNat < s.config.tbitCyc - 1 ∨ 0 < s.bit.toNat ∨ s.led.toNat + 1 < s.cnt.toNat → t.rcnt = s.rcnt) ∧
    t.cnt = s.cnt ∧ t.done = s.done ∧ t.oe = s.oe ∧ t.fb = s.fb ∧ t.config = s.config

/-- R87: the end of the last slot, whatever the transaction. -/
def Obligations.LastSlotStartsReset : Prop :=
  ∀ (i : Instr) (s : State), Running s → s.phase = .bits → 0 < s.cnt.toNat → s.cyc.toNat = s.config.tbitCyc - 1 →
    s.bit.toNat = 0 → s.led.toNat + 1 = s.cnt.toNat → ∃ t, exec i s = .next t ∧
      t.cyc = 0#8 ∧ t.led.toNat = s.led.toNat + 1 ∧ t.phase = .reset ∧ t.inh = false ∧ t.rcnt = 0#24 ∧
      t.bit = 0#5 ∧ t.cnt = s.cnt ∧ t.w = s.w ∧ t.done = s.done ∧ t.oe = s.oe ∧ t.fb = s.fb

/-- R88: the reset pulse and its end, whatever the transaction. -/
def Obligations.ResetPulseCountsAndEnds : Prop :=
  ∀ (i : Instr) (s : State), Running s → s.phase = .reset → ∃ t, exec i s = .next t ∧
    (s.rcnt.toNat < s.config.tresetCyc - 1 →
      t.rcnt.toNat = s.rcnt.toNat + 1 ∧ t.phase = .reset ∧ t.done = s.done) ∧
    (s.rcnt.toNat = s.config.tresetCyc - 1 → t.rcnt = 0#24 ∧ t.phase = .idle ∧ t.done = true) ∧
    t.out.pinOut = false ∧ t.cnt = s.cnt ∧ t.led = s.led ∧ t.bit = s.bit ∧ t.cyc = s.cyc ∧ t.w = s.w ∧
    t.inh = s.inh ∧ t.oe = s.oe ∧ t.fb = s.fb

/-- R77, R90, R101: while BUSY, what the host presents changes nothing but the error record and the read data. -/
def Obligations.HostCannotDisturbTransmission : Prop :=
  ∀ (i j : Instr) (s : State), s.phase ≠ .idle → ∃ t u : State,
    exec i s = .next t ∧ exec j s = .next u ∧
    u = { t with err := u.err, firstErr := u.firstErr, out := { t.out with busRdata := u.out.busRdata } }

/-! ### Whole transmissions: `s` is the state in the cycle `t0` that accepts, so the state in cycle `t0 + m` is the one
after `m` steps, and the outputs of cycle `t0 + m` are in the state after `m + 1` steps. -/

/-- R93: slot `k` of an accepted TRANSMIT of `n >= 1` carries bit `23 - k mod 24` of `FB[k div 24]` as it stood at `t0`;
then RESET, then IDLE with DONE = 1, whatever the host presents short of `rst`. -/
def Obligations.TransmissionTimeline : Prop :=
  ∀ (s : State) (count : BitVec 16), Accepts count s → 1 ≤ count.toNat →
    NoRst (1 + (24 * count.toNat * s.config.tbitCyc + s.config.tresetCyc)) s →
    (∀ k c, k < 24 * count.toNat → c < s.config.tbitCyc → ∃ t, run (1 + k * s.config.tbitCyc + c) s = .next t ∧
      t.phase = .bits ∧ t.led.toNat = k / 24 ∧ t.bit.toNat = 23 - k % 24 ∧ t.cyc.toNat = c ∧
      sentBit t = (FrameBuffer.read s.fb (k / 24)).getLsbD (23 - k % 24)) ∧
    (∀ j, j < s.config.tresetCyc → ∃ t, run (1 + 24 * count.toNat * s.config.tbitCyc + j) s = .next t ∧
      t.phase = .reset ∧ t.rcnt.toNat = j) ∧
    (∃ t, run (1 + 24 * count.toNat * s.config.tbitCyc + s.config.tresetCyc) s = .next t ∧
      t.phase = .idle ∧ t.done = true)

/-- R92: in a slot for the bit `b` the driven line is high in the first `TH(b)` cycles and low in the rest, at least
one. -/
def Obligations.SlotWaveform : Prop :=
  ∀ (s : State) (count : BitVec 16), Accepts count s → 1 ≤ count.toNat →
    NoRst (1 + (24 * count.toNat * s.config.tbitCyc + s.config.tresetCyc)) s →
    ∀ k, k < 24 * count.toNat →
      let th := if (FrameBuffer.read s.fb (k / 24)).getLsbD (23 - k % 24) = true
        then s.config.t1hCyc else s.config.t0hCyc
      1 ≤ th ∧ th < s.config.tbitCyc ∧
      ∀ c, c < s.config.tbitCyc → ∃ t, run (2 + k * s.config.tbitCyc + c) s = .next t ∧
        t.out.pinOe = true ∧ t.out.pinOut = decide (c < th)

/-- R95: `irq_inhibit` is 1 in exactly the cycles of the slots. -/
def Obligations.InterruptInhibitSpansSlots : Prop :=
  ∀ (s : State) (count : BitVec 16), Accepts count s → 1 ≤ count.toNat →
    NoRst (1 + (24 * count.toNat * s.config.tbitCyc + s.config.tresetCyc)) s →
    ∀ m, m ≤ 24 * count.toNat * s.config.tbitCyc + s.config.tresetCyc → ∃ t, run (m + 1) s = .next t ∧
      t.out.irqInhibit = decide (1 ≤ m ∧ m ≤ 24 * count.toNat * s.config.tbitCyc)

/-- R94: the BUSY cycles of an accepted TRANSMIT of `n`, for every `n`. -/
def Obligations.BusyCyclesOfTransmission : Prop :=
  ∀ (s : State) (count : BitVec 16), Accepts count s →
    let b := if 1 ≤ count.toNat then 24 * count.toNat * s.config.tbitCyc + s.config.tresetCyc
      else 1 + s.config.tresetCyc
    NoRst (1 + b) s →
    (∀ m, 1 ≤ m → m ≤ b → ∃ t, run m s = .next t ∧ t.phase ≠ .idle) ∧
    (∃ t, run (1 + b) s = .next t ∧ t.phase = .idle)

/-- R101: an accepted TRANSMIT reaches IDLE after exactly BUSYCYC(n) cycles whatever the host presents short of `rst`, and
a host that waits for it ends within BUSYCYC(n) + 1 reads of STATUS. `Script.waitIdle`, a WAITIDLE with a bound on its reads
that presents them in front of the script, is the model's choice (log entry 16). -/
def Obligations.TransmissionEndsAndWaitIdleEnds : Prop :=
  ∀ (s : State) (count : BitVec 16), Accepts count s →
    (NoRst (1 + s.config.busyCycles count.toNat) s →
      ∃ t, run (1 + s.config.busyCycles count.toNat) s = .next t ∧ Ended t ∧
        ∀ m, 1 ≤ m → m < 1 + s.config.busyCycles count.toNat → ∃ u, run m s = .next u ∧ u.phase ≠ .idle) ∧
    (∀ t, step s = .next t → ∃ u reads, Script.waitIdle (s.config.busyCycles count.toNat + 1) t = some (u, reads) ∧
      reads ≤ s.config.busyCycles count.toNat + 1 ∧ Ended u)

/-- R97: a TRANSMIT of 0 has one empty BITS cycle with `irq_inhibit = 1`, then the reset pulse, then IDLE; no slot. -/
def Obligations.EmptyTransmissionStillResets : Prop :=
  ∀ s : State, Accepts 0#16 s → NoRst (2 + s.config.tresetCyc) s →
    (∃ t u, run 1 s = .next t ∧ t.phase = .bits ∧ run 2 s = .next u ∧ u.out.irqInhibit = true ∧
      u.out.pinOut = false) ∧
    (∀ m, 2 ≤ m → m ≤ 1 + s.config.tresetCyc → ∃ t u, run m s = .next t ∧ t.phase = .reset ∧
      run (m + 1) s = .next u ∧ u.out.irqInhibit = false ∧ u.out.pinOut = false) ∧
    (∃ t, run (2 + s.config.tresetCyc) s = .next t ∧ t.phase = .idle ∧ t.done = true)

/-- R98: the receiver decode of the waveform of an accepted TRANSMIT gives back the bits of the frame buffer as it stood
at acceptance, in order, and then one end of a frame. The trace ends while the line is still low; that the oracle says the
end of the frame in the cycle the low run reaches `TRESET_CYC`, and so before the run is over, is read from R98 by inference
(log entry 17, DEDUCED). -/
def Obligations.ReceiverDecodesFrame : Prop :=
  ∀ (s : State) (count : BitVec 16), Accepts count s → 1 ≤ count.toNat →
    let b := 24 * count.toNat * s.config.tbitCyc + s.config.tresetCyc
    NoRst (1 + b) s →
    let outs := (trace (1 + b) s).drop 1
    outs.length = b ∧ (∀ o ∈ outs, o.pinOe = true) ∧
    receive s.config 0 0 (outs.map Outputs.pinOut) =
      (frameBits s.fb count.toNat).map Received.bit ++ [Received.frameEnd]

/-- R82, R148: the lines of steps 1 to 3 of the source's call, presented to an IDLE block, fill the frame buffer with the
colors and end with a TRANSMIT of `count` that the block accepts, whichever words the host skips (an argument, log
entry 16); no error is recorded. -/
def Obligations.CallSequenceStagesColors : Prop :=
  ∀ (s : State) (skip : Nat → Bool) (colors : List (Byte × Byte × Byte)) (count : Nat) (rest : List BusCycle),
    Running s → s.phase = .idle → count ≤ colors.length → count ≤ s.config.nLeds →
    s.script = Script.callLines skip s.fb s.oe colors count ++ rest →
    ∃ k t, k + 1 = (Script.callLines skip s.fb s.oe colors count).length ∧ run k s = .next t ∧
      Accepts (BitVec.ofNat 16 count) t ∧ t.err = s.err ∧ t.firstErr = s.firstErr ∧
      ∀ (i : Nat) (r g b : Byte), i < count → colors[i]? = some (r, g, b) → FrameBuffer.read t.fb i = r ++ g ++ b

/-- R155: in the cycles up to the first IDLE one after an accepted TRANSMIT, the run is finished in none before that one, and
in that one exactly if it presents no TRANSMIT; a run that presented a TRANSMIT in a `rst` cycle is not finished; and no
TRANSMIT is accepted in a cycle in which the run is finished. Two readings of R155 are the model's (log entry 17, DEDUCED):
that a TRANSMIT the cycle itself presents is still pending (the "exactly if" and the last clause rest on it), and that one
in a `rst` cycle is never decided (the clause on `rst`). -/
def Obligations.RunFinishesWhenIdleAndNothingPending : Prop :=
  (∀ (s : State) (count : BitVec 16), Accepts count s →
    let b := s.config.busyCycles count.toNat
    NoRst (1 + b) s →
    (∀ m, m < 1 + b → ¬ Finished m s) ∧
    (Finished (1 + b) s ↔ ∀ c, decodeWord (s.inputAt (1 + b)).word ≠ .transmit c)) ∧
  (∀ (s : State) (j k : Nat) (c : BitVec 16), j ≤ k → (s.inputAt j).rst = true →
    decodeWord (s.inputAt j).word = .transmit c → ¬ Finished k s) ∧
  (∀ (s t : State) (k : Nat) (c : BitVec 16), Finished k s → run k s = .next t → ¬ Accepts c t)

/-- R82: the whole call on an IDLE block returns, by the first read of STATUS after the reset pulse, with BUSY = 0, DONE = 1
and no error recorded, the frame buffer holding the colors. How the host holds its lines is the model's choice (log entries
3 and 16). -/
def Obligations.CallReturnsAfterResetPulse : Prop :=
  ∀ (s : State) (skip : Nat → Bool) (colors : List (Byte × Byte × Byte)) (count reads : Nat),
    Running s → s.phase = .idle → count ≤ colors.length → count ≤ s.config.nLeds →
    s.config.busyCycles count + 1 ≤ reads →
    ∃ t, Script.call skip colors count reads s = some (t, s.config.busyCycles count + 1) ∧ Ended t ∧
      t.err = s.err ∧ t.firstErr = s.firstErr ∧ t.oe = true ∧ t.cnt.toNat = count ∧ t.script = s.script ∧
      ∀ (i : Nat) (r g b : Byte), i < count → colors[i]? = some (r, g, b) → FrameBuffer.read t.fb i = r ++ g ++ b
end

