-- ==== Sys2Proof/Laws/Decode.lean ====
section
/-! SUPPORT. The fields of a packed word, and a word from its fields (30_encoding.md rules R59, R60). -/

namespace Sys2Proof

@[simp] theorem Access.ofBit_isWrite (acc : Access) : Access.ofBit acc.isWrite = acc := by cases acc <;> rfl

@[simp] theorem Access.isWrite_ofBit (b : Bool) : (Access.ofBit b).isWrite = b := by cases b <;> rfl

/-- Every bit of a packed word (R60). -/
theorem packT_getLsbD (v : Bool) (acc : Access) (a : Addr) (d : Word) (k : Nat) :
    (packT v acc a d).getLsbD k =
      if k < 32 then d.getLsbD k
      else if k < 45 then a.getLsbD (k - 32)
      else if k = 45 then acc.isWrite
      else if k = 46 then v else false := by
  have h : (packT v acc a d).getLsbD k =
      (BitVec.ofBool v ++ BitVec.ofBool acc.isWrite ++ a ++ d : BitVec (1 + 1 + 13 + 32)).getLsbD k := rfl
  rw [h]
  simp only [BitVec.getLsbD_append, BitVec.getLsbD_ofBool]
  split_ifs <;> first | rfl | omega | (subst_vars; simp; done) | (simp; intro hk; omega)

@[simp] theorem fieldV_packT (v : Bool) (acc : Access) (a : Addr) (d : Word) : fieldV (packT v acc a d) = v := by
  simp only [fieldV, packT_getLsbD]
  simp

@[simp] theorem fieldW_packT (v : Bool) (acc : Access) (a : Addr) (d : Word) : fieldW (packT v acc a d) = acc := by
  simp only [fieldW, packT_getLsbD]
  simp

@[simp] theorem fieldA_packT (v : Bool) (acc : Access) (a : Addr) (d : Word) : fieldA (packT v acc a d) = a := by
  apply BitVec.eq_of_getLsbD_eq
  intro k hk
  simp only [fieldA, BitVec.getLsbD_extractLsb', packT_getLsbD]
  have h1 : ¬ 32 + k < 32 := by omega
  have h2 : 32 + k < 45 := by omega
  simp [hk, h2]

@[simp] theorem fieldD_packT (v : Bool) (acc : Access) (a : Addr) (d : Word) : fieldD (packT v acc a d) = d := by
  apply BitVec.eq_of_getLsbD_eq
  intro k hk
  simp only [fieldD, BitVec.getLsbD_extractLsb', packT_getLsbD]
  simp [hk]

/-- A word is made of its four fields. -/
theorem packT_fields (w : Transaction) : packT (fieldV w) (fieldW w) (fieldA w) (fieldD w) = w := by
  apply BitVec.eq_of_getLsbD_eq
  intro k hk
  simp only [packT_getLsbD, fieldV, fieldW, fieldA, fieldD, Access.isWrite_ofBit, BitVec.getLsbD_extractLsb']
  split_ifs with h1 h2 h3 h4
  · simp [h1]
  · simp [show k - 32 < 13 by omega, show 32 + (k - 32) = k by omega]
  · rw [h3]
  · rw [h4]
  · omega

/-- Decoding a packed word is decoding its fields. -/
@[simp] theorem decodeWord_packT (v : Bool) (acc : Access) (a : Addr) (d : Word) :
    decodeWord (packT v acc a d) = decodeFields v acc a d := by simp [decodeWord]

end Sys2Proof
end

