-- ==== Sys2Proof/Laws/Memory.lean ====
section
/-! SUPPORT. The laws of the frame buffer: read after write, and that every operation keeps its one form. -/

namespace Sys2Proof.Machine

theorem FrameBuffer.read_write_same {fb : FrameBuffer} {i : Nat} (h : i < fb.length) (v : Color) :
    FrameBuffer.read (FrameBuffer.write fb i v) i = v := by
  simp [FrameBuffer.read, FrameBuffer.write, h]

theorem FrameBuffer.read_write_other (fb : FrameBuffer) {i j : Nat} (h : i ≠ j) (v : Color) :
    FrameBuffer.read (FrameBuffer.write fb i v) j = FrameBuffer.read fb j := by
  simp [FrameBuffer.read, FrameBuffer.write, List.getD_eq_getElem?_getD, List.getElem?_set_ne h]

/-- A write past the end of the list changes nothing. -/
theorem FrameBuffer.write_beyond {fb : FrameBuffer} {i : Nat} (h : fb.length ≤ i) (v : Color) :
    FrameBuffer.write fb i v = fb := List.set_eq_of_length_le h

@[simp] theorem FrameBuffer.write_length (fb : FrameBuffer) (i : Nat) (v : Color) :
    (FrameBuffer.write fb i v).length = fb.length := by simp [FrameBuffer.write]

theorem FrameBuffer.wf_iff (fb : FrameBuffer) (n : Nat) : FrameBuffer.wf fb n = true ↔ fb.length = n := by
  simp [FrameBuffer.wf]

theorem FrameBuffer.wf_write {fb : FrameBuffer} {n : Nat} (h : FrameBuffer.wf fb n = true) (i : Nat) (v : Color) :
    FrameBuffer.wf (FrameBuffer.write fb i v) n = true := by
  simpa [FrameBuffer.wf_iff] using h

/-- Two frame buffers of the same form that read alike are the same data. -/
theorem FrameBuffer.ext_read {fb gb : FrameBuffer} {n : Nat} (hf : FrameBuffer.wf fb n = true)
    (hg : FrameBuffer.wf gb n = true) (h : ∀ i, FrameBuffer.read fb i = FrameBuffer.read gb i) : fb = gb := by
  rw [FrameBuffer.wf_iff] at hf hg
  refine List.ext_getElem (by rw [hf, hg]) fun i h1 h2 => ?_
  simpa [FrameBuffer.read, List.getD_eq_getElem?_getD, h1, h2] using h i

theorem State.resetWith_fbWf (c : Config) : (State.resetWith c).FbWf := by
  simp [State.FbWf, FrameBuffer.wf_iff, State.resetWith]

end Sys2Proof.Machine
end

