-- ==== Sys2Proof/Laws/State.lean ====
section
/-! SUPPORT. What each named update of the state leaves in each field: one lemma per field and update, so that no later
proof unfolds a record update. -/

namespace Sys2Proof.Machine

/-! ### endEmptyBits -/

@[simp] theorem endEmptyBits_config (s : State) : (endEmptyBits s).config = s.config := rfl
@[simp] theorem endEmptyBits_phase (s : State) : (endEmptyBits s).phase = .reset := rfl
@[simp] theorem endEmptyBits_cnt (s : State) : (endEmptyBits s).cnt = s.cnt := rfl
@[simp] theorem endEmptyBits_led (s : State) : (endEmptyBits s).led = s.led := rfl
@[simp] theorem endEmptyBits_bit (s : State) : (endEmptyBits s).bit = s.bit := rfl
@[simp] theorem endEmptyBits_cyc (s : State) : (endEmptyBits s).cyc = s.cyc := rfl
@[simp] theorem endEmptyBits_rcnt (s : State) : (endEmptyBits s).rcnt = 0#24 := rfl
@[simp] theorem endEmptyBits_w (s : State) : (endEmptyBits s).w = s.w := rfl
@[simp] theorem endEmptyBits_inh (s : State) : (endEmptyBits s).inh = false := rfl
@[simp] theorem endEmptyBits_done (s : State) : (endEmptyBits s).done = s.done := rfl
@[simp] theorem endEmptyBits_oe (s : State) : (endEmptyBits s).oe = s.oe := rfl
@[simp] theorem endEmptyBits_err (s : State) : (endEmptyBits s).err = s.err := rfl
@[simp] theorem endEmptyBits_firstErr (s : State) : (endEmptyBits s).firstErr = s.firstErr := rfl
@[simp] theorem endEmptyBits_fb (s : State) : (endEmptyBits s).fb = s.fb := rfl
@[simp] theorem endEmptyBits_out (s : State) : (endEmptyBits s).out = s.out := rfl
@[simp] theorem endEmptyBits_script (s : State) : (endEmptyBits s).script = s.script := rfl
@[simp] theorem endEmptyBits_hostDraws (s : State) : (endEmptyBits s).hostDraws = s.hostDraws := rfl
@[simp] theorem endEmptyBits_rstSeen (s : State) : (endEmptyBits s).rstSeen = s.rstSeen := rfl

/-! ### nextCycle -/

@[simp] theorem nextCycle_config (s : State) : (nextCycle s).config = s.config := rfl
@[simp] theorem nextCycle_phase (s : State) : (nextCycle s).phase = s.phase := rfl
@[simp] theorem nextCycle_cnt (s : State) : (nextCycle s).cnt = s.cnt := rfl
@[simp] theorem nextCycle_led (s : State) : (nextCycle s).led = s.led := rfl
@[simp] theorem nextCycle_bit (s : State) : (nextCycle s).bit = s.bit := rfl
@[simp] theorem nextCycle_cyc (s : State) : (nextCycle s).cyc = BitVec.ofNat 8 (s.cyc.toNat + 1) := rfl
@[simp] theorem nextCycle_rcnt (s : State) : (nextCycle s).rcnt = s.rcnt := rfl
@[simp] theorem nextCycle_w (s : State) : (nextCycle s).w = s.w := rfl
@[simp] theorem nextCycle_inh (s : State) : (nextCycle s).inh = s.inh := rfl
@[simp] theorem nextCycle_done (s : State) : (nextCycle s).done = s.done := rfl
@[simp] theorem nextCycle_oe (s : State) : (nextCycle s).oe = s.oe := rfl
@[simp] theorem nextCycle_err (s : State) : (nextCycle s).err = s.err := rfl
@[simp] theorem nextCycle_firstErr (s : State) : (nextCycle s).firstErr = s.firstErr := rfl
@[simp] theorem nextCycle_fb (s : State) : (nextCycle s).fb = s.fb := rfl
@[simp] theorem nextCycle_out (s : State) : (nextCycle s).out = s.out := rfl
@[simp] theorem nextCycle_script (s : State) : (nextCycle s).script = s.script := rfl
@[simp] theorem nextCycle_hostDraws (s : State) : (nextCycle s).hostDraws = s.hostDraws := rfl
@[simp] theorem nextCycle_rstSeen (s : State) : (nextCycle s).rstSeen = s.rstSeen := rfl

/-! ### nextBit -/

@[simp] theorem nextBit_config (s : State) : (nextBit s).config = s.config := rfl
@[simp] theorem nextBit_phase (s : State) : (nextBit s).phase = s.phase := rfl
@[simp] theorem nextBit_cnt (s : State) : (nextBit s).cnt = s.cnt := rfl
@[simp] theorem nextBit_led (s : State) : (nextBit s).led = s.led := rfl
@[simp] theorem nextBit_bit (s : State) : (nextBit s).bit = BitVec.ofNat 5 (s.bit.toNat - 1) := rfl
@[simp] theorem nextBit_cyc (s : State) : (nextBit s).cyc = 0#8 := rfl
@[simp] theorem nextBit_rcnt (s : State) : (nextBit s).rcnt = s.rcnt := rfl
@[simp] theorem nextBit_w (s : State) : (nextBit s).w = s.w := rfl
@[simp] theorem nextBit_inh (s : State) : (nextBit s).inh = s.inh := rfl
@[simp] theorem nextBit_done (s : State) : (nextBit s).done = s.done := rfl
@[simp] theorem nextBit_oe (s : State) : (nextBit s).oe = s.oe := rfl
@[simp] theorem nextBit_err (s : State) : (nextBit s).err = s.err := rfl
@[simp] theorem nextBit_firstErr (s : State) : (nextBit s).firstErr = s.firstErr := rfl
@[simp] theorem nextBit_fb (s : State) : (nextBit s).fb = s.fb := rfl
@[simp] theorem nextBit_out (s : State) : (nextBit s).out = s.out := rfl
@[simp] theorem nextBit_script (s : State) : (nextBit s).script = s.script := rfl
@[simp] theorem nextBit_hostDraws (s : State) : (nextBit s).hostDraws = s.hostDraws := rfl
@[simp] theorem nextBit_rstSeen (s : State) : (nextBit s).rstSeen = s.rstSeen := rfl

/-! ### nextLed -/

@[simp] theorem nextLed_config (s : State) : (nextLed s).config = s.config := rfl
@[simp] theorem nextLed_phase (s : State) : (nextLed s).phase = s.phase := rfl
@[simp] theorem nextLed_cnt (s : State) : (nextLed s).cnt = s.cnt := rfl
@[simp] theorem nextLed_led (s : State) : (nextLed s).led = BitVec.ofNat 11 (s.led.toNat + 1) := rfl
@[simp] theorem nextLed_bit (s : State) : (nextLed s).bit = 23#5 := rfl
@[simp] theorem nextLed_cyc (s : State) : (nextLed s).cyc = 0#8 := rfl
@[simp] theorem nextLed_rcnt (s : State) : (nextLed s).rcnt = s.rcnt := rfl
@[simp] theorem nextLed_w (s : State) : (nextLed s).w = FrameBuffer.read s.fb (s.led.toNat + 1) := rfl
@[simp] theorem nextLed_inh (s : State) : (nextLed s).inh = s.inh := rfl
@[simp] theorem nextLed_done (s : State) : (nextLed s).done = s.done := rfl
@[simp] theorem nextLed_oe (s : State) : (nextLed s).oe = s.oe := rfl
@[simp] theorem nextLed_err (s : State) : (nextLed s).err = s.err := rfl
@[simp] theorem nextLed_firstErr (s : State) : (nextLed s).firstErr = s.firstErr := rfl
@[simp] theorem nextLed_fb (s : State) : (nextLed s).fb = s.fb := rfl
@[simp] theorem nextLed_out (s : State) : (nextLed s).out = s.out := rfl
@[simp] theorem nextLed_script (s : State) : (nextLed s).script = s.script := rfl
@[simp] theorem nextLed_hostDraws (s : State) : (nextLed s).hostDraws = s.hostDraws := rfl
@[simp] theorem nextLed_rstSeen (s : State) : (nextLed s).rstSeen = s.rstSeen := rfl

/-! ### endLastSlot -/

@[simp] theorem endLastSlot_config (s : State) : (endLastSlot s).config = s.config := rfl
@[simp] theorem endLastSlot_phase (s : State) : (endLastSlot s).phase = .reset := rfl
@[simp] theorem endLastSlot_cnt (s : State) : (endLastSlot s).cnt = s.cnt := rfl
@[simp] theorem endLastSlot_led (s : State) : (endLastSlot s).led = BitVec.ofNat 11 (s.led.toNat + 1) := rfl
@[simp] theorem endLastSlot_bit (s : State) : (endLastSlot s).bit = s.bit := rfl
@[simp] theorem endLastSlot_cyc (s : State) : (endLastSlot s).cyc = 0#8 := rfl
@[simp] theorem endLastSlot_rcnt (s : State) : (endLastSlot s).rcnt = 0#24 := rfl
@[simp] theorem endLastSlot_w (s : State) : (endLastSlot s).w = s.w := rfl
@[simp] theorem endLastSlot_inh (s : State) : (endLastSlot s).inh = false := rfl
@[simp] theorem endLastSlot_done (s : State) : (endLastSlot s).done = s.done := rfl
@[simp] theorem endLastSlot_oe (s : State) : (endLastSlot s).oe = s.oe := rfl
@[simp] theorem endLastSlot_err (s : State) : (endLastSlot s).err = s.err := rfl
@[simp] theorem endLastSlot_firstErr (s : State) : (endLastSlot s).firstErr = s.firstErr := rfl
@[simp] theorem endLastSlot_fb (s : State) : (endLastSlot s).fb = s.fb := rfl
@[simp] theorem endLastSlot_out (s : State) : (endLastSlot s).out = s.out := rfl
@[simp] theorem endLastSlot_script (s : State) : (endLastSlot s).script = s.script := rfl
@[simp] theorem endLastSlot_hostDraws (s : State) : (endLastSlot s).hostDraws = s.hostDraws := rfl
@[simp] theorem endLastSlot_rstSeen (s : State) : (endLastSlot s).rstSeen = s.rstSeen := rfl

/-! ### nextResetCycle -/

@[simp] theorem nextResetCycle_config (s : State) : (nextResetCycle s).config = s.config := rfl
@[simp] theorem nextResetCycle_phase (s : State) : (nextResetCycle s).phase = s.phase := rfl
@[simp] theorem nextResetCycle_cnt (s : State) : (nextResetCycle s).cnt = s.cnt := rfl
@[simp] theorem nextResetCycle_led (s : State) : (nextResetCycle s).led = s.led := rfl
@[simp] theorem nextResetCycle_bit (s : State) : (nextResetCycle s).bit = s.bit := rfl
@[simp] theorem nextResetCycle_cyc (s : State) : (nextResetCycle s).cyc = s.cyc := rfl
@[simp] theorem nextResetCycle_rcnt (s : State) : (nextResetCycle s).rcnt = BitVec.ofNat 24 (s.rcnt.toNat + 1) := rfl
@[simp] theorem nextResetCycle_w (s : State) : (nextResetCycle s).w = s.w := rfl
@[simp] theorem nextResetCycle_inh (s : State) : (nextResetCycle s).inh = s.inh := rfl
@[simp] theorem nextResetCycle_done (s : State) : (nextResetCycle s).done = s.done := rfl
@[simp] theorem nextResetCycle_oe (s : State) : (nextResetCycle s).oe = s.oe := rfl
@[simp] theorem nextResetCycle_err (s : State) : (nextResetCycle s).err = s.err := rfl
@[simp] theorem nextResetCycle_firstErr (s : State) : (nextResetCycle s).firstErr = s.firstErr := rfl
@[simp] theorem nextResetCycle_fb (s : State) : (nextResetCycle s).fb = s.fb := rfl
@[simp] theorem nextResetCycle_out (s : State) : (nextResetCycle s).out = s.out := rfl
@[simp] theorem nextResetCycle_script (s : State) : (nextResetCycle s).script = s.script := rfl
@[simp] theorem nextResetCycle_hostDraws (s : State) : (nextResetCycle s).hostDraws = s.hostDraws := rfl
@[simp] theorem nextResetCycle_rstSeen (s : State) : (nextResetCycle s).rstSeen = s.rstSeen := rfl

/-! ### endReset -/

@[simp] theorem endReset_config (s : State) : (endReset s).config = s.config := rfl
@[simp] theorem endReset_phase (s : State) : (endReset s).phase = .idle := rfl
@[simp] theorem endReset_cnt (s : State) : (endReset s).cnt = s.cnt := rfl
@[simp] theorem endReset_led (s : State) : (endReset s).led = s.led := rfl
@[simp] theorem endReset_bit (s : State) : (endReset s).bit = s.bit := rfl
@[simp] theorem endReset_cyc (s : State) : (endReset s).cyc = s.cyc := rfl
@[simp] theorem endReset_rcnt (s : State) : (endReset s).rcnt = 0#24 := rfl
@[simp] theorem endReset_w (s : State) : (endReset s).w = s.w := rfl
@[simp] theorem endReset_inh (s : State) : (endReset s).inh = s.inh := rfl
@[simp] theorem endReset_done (s : State) : (endReset s).done = true := rfl
@[simp] theorem endReset_oe (s : State) : (endReset s).oe = s.oe := rfl
@[simp] theorem endReset_err (s : State) : (endReset s).err = s.err := rfl
@[simp] theorem endReset_firstErr (s : State) : (endReset s).firstErr = s.firstErr := rfl
@[simp] theorem endReset_fb (s : State) : (endReset s).fb = s.fb := rfl
@[simp] theorem endReset_out (s : State) : (endReset s).out = s.out := rfl
@[simp] theorem endReset_script (s : State) : (endReset s).script = s.script := rfl
@[simp] theorem endReset_hostDraws (s : State) : (endReset s).hostDraws = s.hostDraws := rfl
@[simp] theorem endReset_rstSeen (s : State) : (endReset s).rstSeen = s.rstSeen := rfl

/-! ### raiseErr -/

@[simp] theorem raiseErr_config (e : ErrCode) (s s1 : State) : (raiseErr e s s1).config = s1.config := rfl
@[simp] theorem raiseErr_phase (e : ErrCode) (s s1 : State) : (raiseErr e s s1).phase = s1.phase := rfl
@[simp] theorem raiseErr_cnt (e : ErrCode) (s s1 : State) : (raiseErr e s s1).cnt = s1.cnt := rfl
@[simp] theorem raiseErr_led (e : ErrCode) (s s1 : State) : (raiseErr e s s1).led = s1.led := rfl
@[simp] theorem raiseErr_bit (e : ErrCode) (s s1 : State) : (raiseErr e s s1).bit = s1.bit := rfl
@[simp] theorem raiseErr_cyc (e : ErrCode) (s s1 : State) : (raiseErr e s s1).cyc = s1.cyc := rfl
@[simp] theorem raiseErr_rcnt (e : ErrCode) (s s1 : State) : (raiseErr e s s1).rcnt = s1.rcnt := rfl
@[simp] theorem raiseErr_w (e : ErrCode) (s s1 : State) : (raiseErr e s s1).w = s1.w := rfl
@[simp] theorem raiseErr_inh (e : ErrCode) (s s1 : State) : (raiseErr e s s1).inh = s1.inh := rfl
@[simp] theorem raiseErr_done (e : ErrCode) (s s1 : State) : (raiseErr e s s1).done = s1.done := rfl
@[simp] theorem raiseErr_oe (e : ErrCode) (s s1 : State) : (raiseErr e s s1).oe = s1.oe := rfl
@[simp] theorem raiseErr_err (e : ErrCode) (s s1 : State) : (raiseErr e s s1).err = s1.err ||| e.mask := rfl
@[simp] theorem raiseErr_firstErr (e : ErrCode) (s s1 : State) : (raiseErr e s s1).firstErr = if s.firstErr = 0#3 then e.code else s1.firstErr := rfl
@[simp] theorem raiseErr_fb (e : ErrCode) (s s1 : State) : (raiseErr e s s1).fb = s1.fb := rfl
@[simp] theorem raiseErr_out (e : ErrCode) (s s1 : State) : (raiseErr e s s1).out = s1.out := rfl
@[simp] theorem raiseErr_script (e : ErrCode) (s s1 : State) : (raiseErr e s s1).script = s1.script := rfl
@[simp] theorem raiseErr_hostDraws (e : ErrCode) (s s1 : State) : (raiseErr e s s1).hostDraws = s1.hostDraws := rfl
@[simp] theorem raiseErr_rstSeen (e : ErrCode) (s s1 : State) : (raiseErr e s s1).rstSeen = s1.rstSeen := rfl

/-! ### accept -/

@[simp] theorem accept_config (n : Nat) (s s1 : State) : (accept n s s1).config = s1.config := rfl
@[simp] theorem accept_phase (n : Nat) (s s1 : State) : (accept n s s1).phase = .bits := rfl
@[simp] theorem accept_cnt (n : Nat) (s s1 : State) : (accept n s s1).cnt = BitVec.ofNat 11 n := rfl
@[simp] theorem accept_led (n : Nat) (s s1 : State) : (accept n s s1).led = 0#11 := rfl
@[simp] theorem accept_bit (n : Nat) (s s1 : State) : (accept n s s1).bit = 23#5 := rfl
@[simp] theorem accept_cyc (n : Nat) (s s1 : State) : (accept n s s1).cyc = 0#8 := rfl
@[simp] theorem accept_rcnt (n : Nat) (s s1 : State) : (accept n s s1).rcnt = 0#24 := rfl
@[simp] theorem accept_w (n : Nat) (s s1 : State) : (accept n s s1).w = FrameBuffer.read s.fb 0 := rfl
@[simp] theorem accept_inh (n : Nat) (s s1 : State) : (accept n s s1).inh = true := rfl
@[simp] theorem accept_done (n : Nat) (s s1 : State) : (accept n s s1).done = false := rfl
@[simp] theorem accept_oe (n : Nat) (s s1 : State) : (accept n s s1).oe = s1.oe := rfl
@[simp] theorem accept_err (n : Nat) (s s1 : State) : (accept n s s1).err = s1.err := rfl
@[simp] theorem accept_firstErr (n : Nat) (s s1 : State) : (accept n s s1).firstErr = s1.firstErr := rfl
@[simp] theorem accept_fb (n : Nat) (s s1 : State) : (accept n s s1).fb = s1.fb := rfl
@[simp] theorem accept_out (n : Nat) (s s1 : State) : (accept n s s1).out = s1.out := rfl
@[simp] theorem accept_script (n : Nat) (s s1 : State) : (accept n s s1).script = s1.script := rfl
@[simp] theorem accept_hostDraws (n : Nat) (s s1 : State) : (accept n s s1).hostDraws = s1.hostDraws := rfl
@[simp] theorem accept_rstSeen (n : Nat) (s s1 : State) : (accept n s s1).rstSeen = s1.rstSeen := rfl

/-! ### rstEdge -/

@[simp] theorem rstEdge_config (s : State) : (rstEdge s).config = s.config := rfl
@[simp] theorem rstEdge_phase (s : State) : (rstEdge s).phase = .idle := rfl
@[simp] theorem rstEdge_cnt (s : State) : (rstEdge s).cnt = 0#11 := rfl
@[simp] theorem rstEdge_led (s : State) : (rstEdge s).led = 0#11 := rfl
@[simp] theorem rstEdge_bit (s : State) : (rstEdge s).bit = 0#5 := rfl
@[simp] theorem rstEdge_cyc (s : State) : (rstEdge s).cyc = 0#8 := rfl
@[simp] theorem rstEdge_rcnt (s : State) : (rstEdge s).rcnt = 0#24 := rfl
@[simp] theorem rstEdge_w (s : State) : (rstEdge s).w = 0#24 := rfl
@[simp] theorem rstEdge_inh (s : State) : (rstEdge s).inh = false := rfl
@[simp] theorem rstEdge_done (s : State) : (rstEdge s).done = false := rfl
@[simp] theorem rstEdge_oe (s : State) : (rstEdge s).oe = false := rfl
@[simp] theorem rstEdge_err (s : State) : (rstEdge s).err = 0#6 := rfl
@[simp] theorem rstEdge_firstErr (s : State) : (rstEdge s).firstErr = 0#3 := rfl
@[simp] theorem rstEdge_fb (s : State) : (rstEdge s).fb = s.fb := rfl
@[simp] theorem rstEdge_out (s : State) : (rstEdge s).out = outputs s true 0#32 := rfl
@[simp] theorem rstEdge_script (s : State) : (rstEdge s).script = s.script := rfl
@[simp] theorem rstEdge_hostDraws (s : State) : (rstEdge s).hostDraws = s.hostDraws := rfl
@[simp] theorem rstEdge_rstSeen (s : State) : (rstEdge s).rstSeen = true := rfl

/-! ### consumeInput: only `script` and `hostDraws` change -/

@[simp] theorem State.consumeInput_config (s : State) : s.consumeInput.config = s.config := by
  unfold State.consumeInput; split <;> rfl
@[simp] theorem State.consumeInput_phase (s : State) : s.consumeInput.phase = s.phase := by
  unfold State.consumeInput; split <;> rfl
@[simp] theorem State.consumeInput_cnt (s : State) : s.consumeInput.cnt = s.cnt := by
  unfold State.consumeInput; split <;> rfl
@[simp] theorem State.consumeInput_led (s : State) : s.consumeInput.led = s.led := by
  unfold State.consumeInput; split <;> rfl
@[simp] theorem State.consumeInput_bit (s : State) : s.consumeInput.bit = s.bit := by
  unfold State.consumeInput; split <;> rfl
@[simp] theorem State.consumeInput_cyc (s : State) : s.consumeInput.cyc = s.cyc := by
  unfold State.consumeInput; split <;> rfl
@[simp] theorem State.consumeInput_rcnt (s : State) : s.consumeInput.rcnt = s.rcnt := by
  unfold State.consumeInput; split <;> rfl
@[simp] theorem State.consumeInput_w (s : State) : s.consumeInput.w = s.w := by
  unfold State.consumeInput; split <;> rfl
@[simp] theorem State.consumeInput_inh (s : State) : s.consumeInput.inh = s.inh := by
  unfold State.consumeInput; split <;> rfl
@[simp] theorem State.consumeInput_done (s : State) : s.consumeInput.done = s.done := by
  unfold State.consumeInput; split <;> rfl
@[simp] theorem State.consumeInput_oe (s : State) : s.consumeInput.oe = s.oe := by
  unfold State.consumeInput; split <;> rfl
@[simp] theorem State.consumeInput_err (s : State) : s.consumeInput.err = s.err := by
  unfold State.consumeInput; split <;> rfl
@[simp] theorem State.consumeInput_firstErr (s : State) : s.consumeInput.firstErr = s.firstErr := by
  unfold State.consumeInput; split <;> rfl
@[simp] theorem State.consumeInput_fb (s : State) : s.consumeInput.fb = s.fb := by
  unfold State.consumeInput; split <;> rfl
@[simp] theorem State.consumeInput_out (s : State) : s.consumeInput.out = s.out := by
  unfold State.consumeInput; split <;> rfl
@[simp] theorem State.consumeInput_rstSeen (s : State) : s.consumeInput.rstSeen = s.rstSeen := by
  unfold State.consumeInput; split <;> rfl

/-! ### resetWith -/

@[simp] theorem State.resetWith_config (c : Config) : (State.resetWith c).config = c := rfl
@[simp] theorem State.resetWith_phase (c : Config) : (State.resetWith c).phase = .idle := rfl
@[simp] theorem State.resetWith_cnt (c : Config) : (State.resetWith c).cnt = 0#11 := rfl
@[simp] theorem State.resetWith_led (c : Config) : (State.resetWith c).led = 0#11 := rfl
@[simp] theorem State.resetWith_bit (c : Config) : (State.resetWith c).bit = 0#5 := rfl
@[simp] theorem State.resetWith_cyc (c : Config) : (State.resetWith c).cyc = 0#8 := rfl
@[simp] theorem State.resetWith_rcnt (c : Config) : (State.resetWith c).rcnt = 0#24 := rfl
@[simp] theorem State.resetWith_w (c : Config) : (State.resetWith c).w = 0#24 := rfl
@[simp] theorem State.resetWith_inh (c : Config) : (State.resetWith c).inh = false := rfl
@[simp] theorem State.resetWith_done (c : Config) : (State.resetWith c).done = false := rfl
@[simp] theorem State.resetWith_oe (c : Config) : (State.resetWith c).oe = false := rfl
@[simp] theorem State.resetWith_err (c : Config) : (State.resetWith c).err = 0#6 := rfl
@[simp] theorem State.resetWith_firstErr (c : Config) : (State.resetWith c).firstErr = 0#3 := rfl
@[simp] theorem State.resetWith_fb (c : Config) : (State.resetWith c).fb = (List.range c.nLeds).map Config.powerOnWord := rfl
@[simp] theorem State.resetWith_out (c : Config) : (State.resetWith c).out = Outputs.quiet := rfl
@[simp] theorem State.resetWith_script (c : Config) : (State.resetWith c).script = [] := rfl
@[simp] theorem State.resetWith_hostDraws (c : Config) : (State.resetWith c).hostDraws = 0 := rfl
@[simp] theorem State.resetWith_rstSeen (c : Config) : (State.resetWith c).rstSeen = true := rfl

end Sys2Proof.Machine
end

