-- ==== Sys2Proof/Laws/Ops.lean ====
section
/-! SUPPORT. One lemma for each shared operation that says everything it can do; proofs cite these instead of unfolding
the operation. -/

namespace Sys2Proof.Machine

/-! ### The sequencer -/

/-- Everything `seqBits` can do, guards included (R85 to R87). -/
theorem seqBits_cases (s : State) :
    (s.cnt.toNat = 0 ∧ seqBits s = endEmptyBits s) ∨
    (0 < s.cnt.toNat ∧ s.cyc.toNat < s.config.tbitCyc - 1 ∧ seqBits s = nextCycle s) ∨
    (0 < s.cnt.toNat ∧ s.config.tbitCyc - 1 ≤ s.cyc.toNat ∧ 0 < s.bit.toNat ∧ seqBits s = nextBit s) ∨
    (0 < s.cnt.toNat ∧ s.config.tbitCyc - 1 ≤ s.cyc.toNat ∧ s.bit.toNat = 0 ∧ s.led.toNat + 1 < s.cnt.toNat ∧
      seqBits s = nextLed s) ∨
    (0 < s.cnt.toNat ∧ s.config.tbitCyc - 1 ≤ s.cyc.toNat ∧ s.bit.toNat = 0 ∧ s.cnt.toNat ≤ s.led.toNat + 1 ∧
      seqBits s = endLastSlot s) := by
  by_cases h1 : s.cnt.toNat = 0
  · simp [seqBits, h1]
  · by_cases h2 : s.cyc.toNat < s.config.tbitCyc - 1
    · simp [seqBits, h1, h2]; omega
    · by_cases h3 : 0 < s.bit.toNat
      · simp [seqBits, h1, h2, h3]; omega
      · by_cases h4 : s.led.toNat + 1 < s.cnt.toNat
        · simp [seqBits, h1, h2, h3, h4]; omega
        · simp [seqBits, h1, h2, h3, h4]; omega

/-- Everything `seqReset` can do, guards included (R88). -/
theorem seqReset_cases (s : State) :
    (s.rcnt.toNat < s.config.tresetCyc - 1 ∧ seqReset s = nextResetCycle s) ∨
    (s.config.tresetCyc - 1 ≤ s.rcnt.toNat ∧ seqReset s = endReset s) := by
  by_cases h : s.rcnt.toNat < s.config.tresetCyc - 1
  · simp [seqReset, h]
  · simp [seqReset, h]; omega

theorem seq_idle {s : State} (h : s.phase = .idle) : seq s = s := by simp [seq, h]
theorem seq_bits {s : State} (h : s.phase = .bits) : seq s = seqBits s := by simp [seq, h]
theorem seq_reset {s : State} (h : s.phase = .reset) : seq s = seqReset s := by simp [seq, h]

/-- Everything `seq` can do, as one of the named updates. -/
theorem seq_cases (s : State) :
    seq s = s ∨ seq s = endEmptyBits s ∨ seq s = nextCycle s ∨ seq s = nextBit s ∨ seq s = nextLed s ∨
      seq s = endLastSlot s ∨ seq s = nextResetCycle s ∨ seq s = endReset s := by
  cases h : s.phase with
  | idle => exact .inl (seq_idle h)
  | bits => rw [seq_bits h]; rcases seqBits_cases s with h | h | h | h | h <;> simp [h]
  | reset => rw [seq_reset h]; rcases seqReset_cases s with h | h <;> simp [h]

/-! What the sequencer never writes (R100). -/

@[simp] theorem seq_config (s : State) : (seq s).config = s.config := by
  rcases seq_cases s with h | h | h | h | h | h | h | h <;> simp [h]
@[simp] theorem seq_cnt (s : State) : (seq s).cnt = s.cnt := by
  rcases seq_cases s with h | h | h | h | h | h | h | h <;> simp [h]
@[simp] theorem seq_oe (s : State) : (seq s).oe = s.oe := by
  rcases seq_cases s with h | h | h | h | h | h | h | h <;> simp [h]
@[simp] theorem seq_err (s : State) : (seq s).err = s.err := by
  rcases seq_cases s with h | h | h | h | h | h | h | h <;> simp [h]
@[simp] theorem seq_firstErr (s : State) : (seq s).firstErr = s.firstErr := by
  rcases seq_cases s with h | h | h | h | h | h | h | h <;> simp [h]
@[simp] theorem seq_fb (s : State) : (seq s).fb = s.fb := by
  rcases seq_cases s with h | h | h | h | h | h | h | h <;> simp [h]
@[simp] theorem seq_out (s : State) : (seq s).out = s.out := by
  rcases seq_cases s with h | h | h | h | h | h | h | h <;> simp [h]
@[simp] theorem seq_script (s : State) : (seq s).script = s.script := by
  rcases seq_cases s with h | h | h | h | h | h | h | h <;> simp [h]
@[simp] theorem seq_hostDraws (s : State) : (seq s).hostDraws = s.hostDraws := by
  rcases seq_cases s with h | h | h | h | h | h | h | h <;> simp [h]
@[simp] theorem seq_rstSeen (s : State) : (seq s).rstSeen = s.rstSeen := by
  rcases seq_cases s with h | h | h | h | h | h | h | h <;> simp [h]

/-! ### The end of a cycle -/

theorem endCycle_next {s t s1 : State} {r : Word} :
    endCycle s r s1 = .next t ↔ t = { s1 with out := outputs s false r } := by
  simp only [endCycle, Host.Outcome.next.injEq]
  exact eq_comm

/-- A cycle that writes nothing of its own. -/
theorem quietCycle_next {s t : State} {r : Word} :
    quietCycle s r = .next t ↔ t = { seq s with out := outputs s false r } := endCycle_next

/-- A cycle that raises an error and writes nothing else (R129). -/
theorem errorCycle_next {s t : State} {e : ErrCode} :
    errorCycle e s = .next t ↔ t = { raiseErr e s (seq s) with out := outputs s false 0#32 } := endCycle_next

/-- Everything a cycle with `rst = 0` can do, guards included. -/
theorem exec_cases {i : Instr} {s t : State} (h : exec i s = .next t) :
    (∃ r, t = { seq s with out := outputs s false r }) ∨
    (∃ e, t = { raiseErr e s (seq s) with out := outputs s false 0#32 }) ∨
    (∃ d, i = .wrCtrl d ∧ s.phase = .idle ∧ t = { seq s with oe := oeOperand d, out := outputs s false 0#32 }) ∨
    (∃ count, i = .transmit count ∧ s.phase = .idle ∧ s.oe = true ∧ countOperand count ≤ s.config.nLeds ∧
      t = { accept (countOperand count) s (seq s) with out := outputs s false 0#32 }) ∨
    (∃ index d, i = .wrFb index d ∧ s.phase = .idle ∧ indexOperand index < s.config.nLeds ∧
      t = { seq s with
            fb := FrameBuffer.write s.fb (indexOperand index) (colorOperand d)
            out := outputs s false 0#32 }) := by
  have quiet : ∀ {r}, quietCycle s r = .next t → ∃ r, t = { seq s with out := outputs s false r } :=
    fun h => ⟨_, quietCycle_next.mp h⟩
  have error : ∀ {e}, errorCycle e s = .next t →
      ∃ e, t = { raiseErr e s (seq s) with out := outputs s false 0#32 } := fun h => ⟨_, errorCycle_next.mp h⟩
  cases i with
  | wrCtrl d =>
    simp only [exec, execWrCtrl] at h
    split at h
    · exact .inr (.inl (error h))
    · exact .inr (.inr (.inl ⟨d, rfl, by simp_all, endCycle_next.mp h⟩))
  | transmit count =>
    simp only [exec, execTransmit] at h
    split at h
    · exact .inr (.inl (error h))
    · split at h
      · exact .inr (.inl (error h))
      · split at h
        · exact .inr (.inl (error h))
        · exact .inr (.inr (.inr (.inl ⟨count, rfl, by simp_all, by simp_all, by omega, endCycle_next.mp h⟩)))
  | rdFb index d =>
    simp only [exec, execRdFb] at h
    split at h
    · exact .inr (.inl (error h))
    · exact .inl (quiet h)
  | wrFb index d =>
    simp only [exec, execWrFb] at h
    split at h
    · exact .inr (.inl (error h))
    · split at h
      · exact .inr (.inl (error h))
      · refine .inr (.inr (.inr (.inr ⟨index, d, rfl, by simp_all, by simp_all [indexMapped], ?_⟩)))
        simpa using endCycle_next.mp h
  | idle | nop | rdCtrl | rdCmd | rdStatus | rdXcount | rdPos | rdConfig | rdTiming0 | rdTiming1 | rdFclk =>
    exact .inl (quiet h)
  | badAlignOdd | badAlignHalf | badAddr | cmdReserved | wrStatus | wrXcount | wrPos | wrConfig | wrTiming0
      | wrTiming1 | wrFclk => exact .inr (.inl (error h))

/-! ### The host's input -/

theorem State.inputAt_zero_cons {s : State} {c : BusCycle} {rest : List BusCycle} (h : s.script = c :: rest) :
    s.inputAt 0 = c := by simp [State.inputAt, h]

theorem State.consumeInput_cons {s : State} {c : BusCycle} {rest : List BusCycle} (h : s.script = c :: rest) :
    s.consumeInput = { s with script := rest } := by simp [State.consumeInput, h]

/-- The cycle after next is the next cycle of the state whose input was taken. -/
theorem State.inputAt_succ (s : State) (k : Nat) : s.inputAt (k + 1) = s.consumeInput.inputAt k := by
  cases h : s.script with
  | nil => simp [State.inputAt, State.consumeInput, h]; constructor <;> congr 1 <;> omega
  | cons c rest => simp [State.inputAt, State.consumeInput, h]

/-- The inputs depend on the script and the counter of draws alone. -/
theorem State.inputAt_congr {s t : State} (h1 : s.script = t.script) (h2 : s.hostDraws = t.hostDraws) (k : Nat) :
    s.inputAt k = t.inputAt k := by simp [State.inputAt, h1, h2]

/-- Inside the script the input is the script's. -/
theorem State.inputAt_script {s : State} {k : Nat} (h : k < s.script.length) : s.inputAt k = s.script[k] := by
  simp [State.inputAt, h]

/-! ### The step -/

/-- Everything a step that goes on can be. -/
theorem step_cases {s t : State} (h : step s = .next t) :
    s.config.Valid ∧
    (((s.inputAt 0).rst = true ∧ t = rstEdge s.consumeInput) ∨
      ((s.inputAt 0).rst = false ∧ s.rstSeen = true ∧ s.Invariants ∧
        exec (decodeWord (s.inputAt 0).word) s.consumeInput = .next t)) := by
  unfold step at h
  split at h
  · cases h
  · rename_i hv
    refine ⟨not_not.mp hv, ?_⟩
    split at h
    · rename_i hr
      exact .inl ⟨hr, by simpa using h.symm⟩
    · rename_i hr
      split at h
      · cases h
      · split at h
        · cases h
        · rename_i hs hi
          exact .inr ⟨by simpa using hr, by simpa using hs, not_not.mp hi, h⟩

/-- What a step leaves of the host's script: the transaction's meaning never touches it. -/
theorem exec_keeps_input {i : Instr} {s t : State} (h : exec i s = .next t) :
    t.script = s.script ∧ t.hostDraws = s.hostDraws ∧ t.config = s.config ∧ t.rstSeen = s.rstSeen := by
  rcases exec_cases h with ⟨r, rfl⟩ | ⟨e, rfl⟩ | ⟨d, -, -, rfl⟩ | ⟨n, -, -, -, -, rfl⟩ | ⟨j, d, -, -, -, rfl⟩ <;> simp

end Sys2Proof.Machine
end

