-- ==== Sys2Proof/Laws/PerInstr.lean ====
section
/-! SUPPORT. Statements about every instruction as syntax, one lemma per constructor (LAWS.json). -/

namespace Sys2Proof.Laws

/-- The family `EncodedValidBit`: an instruction's word has V = 1 unless it is IDLE (R60, R64). -/
def EncodedValidBit.Statement (i : Instr) : Prop := fieldV (encode i) = decide (i.row ≠ 1)

theorem EncodedValidBit.idle (acc : Access) (a : Addr) (d : Word) : EncodedValidBit.Statement (.idle acc a d) :=
  fieldV_packT _ _ _ _

theorem EncodedValidBit.badAlignOdd (acc : Access) (a : Addr) (d : Word) : EncodedValidBit.Statement (.badAlignOdd acc a d) :=
  fieldV_packT _ _ _ _

theorem EncodedValidBit.badAlignHalf (acc : Access) (a : Addr) (d : Word) : EncodedValidBit.Statement (.badAlignHalf acc a d) :=
  fieldV_packT _ _ _ _

theorem EncodedValidBit.rdCtrl (d : Word) : EncodedValidBit.Statement (.rdCtrl d) :=
  fieldV_packT _ _ _ _

theorem EncodedValidBit.wrCtrl (d : Word) : EncodedValidBit.Statement (.wrCtrl d) :=
  fieldV_packT _ _ _ _

theorem EncodedValidBit.rdCmd (d : Word) : EncodedValidBit.Statement (.rdCmd d) :=
  fieldV_packT _ _ _ _

theorem EncodedValidBit.nop : EncodedValidBit.Statement (.nop) :=
  fieldV_packT _ _ _ _

theorem EncodedValidBit.transmit (count : BitVec 16) : EncodedValidBit.Statement (.transmit count) :=
  fieldV_packT _ _ _ _

theorem EncodedValidBit.cmdReserved (d : Word) : EncodedValidBit.Statement (.cmdReserved d) :=
  fieldV_packT _ _ _ _

theorem EncodedValidBit.rdStatus (d : Word) : EncodedValidBit.Statement (.rdStatus d) :=
  fieldV_packT _ _ _ _

theorem EncodedValidBit.wrStatus (d : Word) : EncodedValidBit.Statement (.wrStatus d) :=
  fieldV_packT _ _ _ _

theorem EncodedValidBit.rdXcount (d : Word) : EncodedValidBit.Statement (.rdXcount d) :=
  fieldV_packT _ _ _ _

theorem EncodedValidBit.wrXcount (d : Word) : EncodedValidBit.Statement (.wrXcount d) :=
  fieldV_packT _ _ _ _

theorem EncodedValidBit.rdPos (d : Word) : EncodedValidBit.Statement (.rdPos d) :=
  fieldV_packT _ _ _ _

theorem EncodedValidBit.wrPos (d : Word) : EncodedValidBit.Statement (.wrPos d) :=
  fieldV_packT _ _ _ _

theorem EncodedValidBit.rdConfig (d : Word) : EncodedValidBit.Statement (.rdConfig d) :=
  fieldV_packT _ _ _ _

theorem EncodedValidBit.wrConfig (d : Word) : EncodedValidBit.Statement (.wrConfig d) :=
  fieldV_packT _ _ _ _

theorem EncodedValidBit.rdTiming0 (d : Word) : EncodedValidBit.Statement (.rdTiming0 d) :=
  fieldV_packT _ _ _ _

theorem EncodedValidBit.wrTiming0 (d : Word) : EncodedValidBit.Statement (.wrTiming0 d) :=
  fieldV_packT _ _ _ _

theorem EncodedValidBit.rdTiming1 (d : Word) : EncodedValidBit.Statement (.rdTiming1 d) :=
  fieldV_packT _ _ _ _

theorem EncodedValidBit.wrTiming1 (d : Word) : EncodedValidBit.Statement (.wrTiming1 d) :=
  fieldV_packT _ _ _ _

theorem EncodedValidBit.rdFclk (d : Word) : EncodedValidBit.Statement (.rdFclk d) :=
  fieldV_packT _ _ _ _

theorem EncodedValidBit.wrFclk (d : Word) : EncodedValidBit.Statement (.wrFclk d) :=
  fieldV_packT _ _ _ _

theorem EncodedValidBit.rdFb (index : BitVec 10) (d : Word) : EncodedValidBit.Statement (.rdFb index d) :=
  fieldV_packT _ _ _ _

theorem EncodedValidBit.wrFb (index : BitVec 10) (d : Word) : EncodedValidBit.Statement (.wrFb index d) :=
  fieldV_packT _ _ _ _

theorem EncodedValidBit.badAddr (acc : Access) (a : Addr) (d : Word) : EncodedValidBit.Statement (.badAddr acc a d) :=
  fieldV_packT _ _ _ _

end Sys2Proof.Laws
end

