-- ==== Sys2Proof/Laws/Runs.lean ====
section
/-! SUPPORT. Runs, traces, the absence of `rst` cycles, and host scripts. -/

namespace Sys2Proof.Safety

open Sys2Proof.Machine

@[simp] theorem run_zero (s : State) : run 0 s = .next s := rfl

/-- A longer run is a step and then the rest. -/
theorem run_succ_next {k : Nat} {s t : State} (h : step s = .next t) : run (k + 1) s = run k t := by
  have hs : Sys2Proof.core.step s = .next t := h
  simp only [run, Host.Core.run]
  rw [hs]

/-- A longer run that goes on is a step that goes on and then the rest. -/
theorem run_succ_cases {k : Nat} {s t : State} (h : run (k + 1) s = .next t) :
    ∃ u, step s = .next u ∧ run k u = .next t := by
  cases hs : step s with
  | next u => exact ⟨u, rfl, (run_succ_next hs).symm.trans h⟩
  | fault r =>
    have hc : Sys2Proof.core.step s = .fault r := hs
    simp only [run, Host.Core.run, hc] at h
    cases h
  | refused r =>
    have hc : Sys2Proof.core.step s = .refused r := hs
    simp only [run, Host.Core.run, hc] at h
    cases h

@[simp] theorem trace_zero (s : State) : trace 0 s = [] := rfl

theorem trace_succ_next {k : Nat} {s t : State} (h : step s = .next t) : trace (k + 1) s = t.out :: trace k t := by
  simp [trace, h]

/-- A step takes its cycle from the host's input and leaves the rest. -/
theorem step_keeps_input {s t : State} (h : step s = .next t) (k : Nat) : t.inputAt k = s.inputAt (k + 1) := by
  rw [State.inputAt_succ]
  rcases (step_cases h).2 with ⟨-, rfl⟩ | ⟨-, -, -, he⟩
  · exact State.inputAt_congr rfl rfl k
  · have hk := exec_keeps_input he
    exact State.inputAt_congr hk.1 hk.2.1 k

/-- A run takes its cycles from the host's input and leaves the rest. -/
theorem run_keeps_input {k : Nat} {s t : State} (h : run k s = .next t) (j : Nat) :
    t.inputAt j = s.inputAt (j + k) := by
  induction k generalizing s with
  | zero => cases h; rfl
  | succ k ih =>
    obtain ⟨u, hs, hu⟩ := run_succ_cases h
    rw [ih hu, step_keeps_input hs, Nat.add_assoc]

/-- A step uses up one cycle without `rst`. -/
theorem NoRst.step {k : Nat} {s t : State} (hn : NoRst (k + 1) s) (h : step s = .next t) : NoRst k t := by
  intro j hj
  rw [step_keeps_input h]
  exact hn (j + 1) (by omega)

/-- A script without `rst` cycles that is long enough. -/
theorem noRst_of_script {k : Nat} {s : State} (hk : k ≤ s.script.length) (h : ∀ c ∈ s.script, c.rst = false) :
    NoRst k s := by
  intro j hj
  rw [State.inputAt_script (by omega)]
  exact h _ (List.getElem_mem _)

/-- In a running cycle without `rst`, a TRANSMIT is accepted or refused (R75). -/
theorem transmit_is_decided {s : State} {count : BitVec 16} (hr : Running s) (h0 : (s.inputAt 0).rst = false)
    (hd : decodeWord (s.inputAt 0).word = .transmit count) : Accepts count s ∨ Refuses count s := by
  by_cases h : s.phase = .idle ∧ s.oe = true ∧ count.toNat ≤ s.config.nLeds
  · exact .inl ⟨hr, h0, hd, h⟩
  · refine .inr ⟨hr, h0, hd, ?_⟩
    simp only [not_and_or, Bool.not_eq_true, Nat.not_le] at h
    exact h

/-- It is never both. -/
theorem accepted_not_refused {s : State} {c c' : BitVec 16} (ha : Accepts c s) : ¬ Refuses c' s := by
  rintro ⟨-, -, hd, h⟩
  obtain ⟨-, -, hd', hp, ho, hn⟩ := ha
  obtain rfl : c = c' := Instr.transmit.inj (hd'.symm.trans hd)
  rcases h with h | h | h
  · exact h hp
  · simp [ho] at h
  · omega

/-! ### Host scripts -/

open Sys2Proof.Machine.Script

@[simp] theorem presentAll_nil (s : State) : presentAll [] s = some s := rfl

theorem presentAll_cons_next {c : BusCycle} {rest : List BusCycle} {s t : State} (h : step (present c s) = .next t) :
    presentAll (c :: rest) s = presentAll rest t := by
  simp [presentAll, h]

theorem poll_succ_next {a : Addr} {mask value : Word} {reads : Nat} {s t : State}
    (h : step (present (rd a) s) = .next t) :
    poll a mask value (reads + 1) s =
      if t.out.busRdata &&& mask = value then some (t, 1)
      else (poll a mask value reads t).map (fun r => (r.1, r.2 + 1)) := by
  simp [poll, h]

@[simp] theorem present_inputAt_zero (c : BusCycle) (s : State) : (present c s).inputAt 0 = c := rfl

@[simp] theorem present_consumeInput (c : BusCycle) (s : State) : (present c s).consumeInput = s := rfl

/-- Step 1 of the call takes at most one line for each color. -/
theorem putleds_length_le (skip : Nat → Bool) (fb : FrameBuffer) (i : Nat) (colors : List (Byte × Byte × Byte)) :
    (putleds skip fb i colors).length ≤ colors.length := by
  induction colors generalizing i with
  | nil => exact Nat.le_refl 0
  | cons c rest ih =>
    have hr := ih (i + 1)
    simp only [putleds]
    split
    · exact Nat.le_succ_of_le hr
    · exact Nat.succ_le_succ hr

end Sys2Proof.Safety
end

