-- ==== Sys2Proof/Tests/Slice0.lean ====
section
/-! SUPPORT. The model's own tests. Expected results are those of spec/95_test_vectors.md (V-ENC, V-CMD, V-SEQ, V-ERR, V-CFG,
R-1 to R-4) and 30_encoding.md rule R68; then the smoke test of `Instr.wf`, and a witness for the hypotheses of each
statement that has any. -/

-- Many small theorems elaborated at once take one thread each, more than the check's memory limit allows.
set_option Elab.async false

namespace Sys2Proof.Tests

open Sys2Proof.Machine Sys2Proof.Safety

/-! ### Helpers -/

/-- The reset state of V-ENC: the default configuration, every frame-buffer word 0x5A5A5A. -/
def vec : State := { State.reset with fb := [0x5A5A5A#24, 0x5A5A5A#24, 0x5A5A5A#24] }

/-- IDLE with OE = 1. -/
def idleOn : State := { vec with oe := true }

/-- The first cycle of the first slot of a TRANSMIT of 3. -/
def inBits : State :=
  { idleOn with phase := .bits, cnt := 3#11, bit := 23#5, w := 0x5A5A5A#24, inh := true }

/-- The last cycle of the last slot of a TRANSMIT of 3. -/
def lastSlot : State := { inBits with led := 2#11, bit := 0#5, cyc := 9#8 }

/-- The last cycle of the reset pulse after a TRANSMIT of 3. -/
def lastReset : State :=
  { idleOn with phase := .reset, cnt := 3#11, led := 3#11, rcnt := 399#24, w := 0x5A5A5A#24 }

/-- The last cycle but one of the reset pulse. -/
def lastButOneReset : State := { lastReset with rcnt := 398#24 }

/-- IDLE after a TRANSMIT of 3. -/
def afterFrame : State := { lastReset with phase := .idle, rcnt := 0#24, done := true }

/-- The last cycle but one of the first slot, its last cycle, and the last cycle of LED 0. -/
def lastButOneCycle : State := { inBits with cyc := 8#8 }
def slotEnd : State := { inBits with cyc := 9#8 }
def ledEnd : State := { inBits with bit := 0#5, cyc := 9#8 }

/-- Reset states with a known host cycle. -/
def readsStatus : State := { vec with script := [Script.rd Script.status] }
def noRstYet : State := { vec with rstSeen := false, script := [Script.idle] }
def brokenBit : State := { vec with bit := 24#5, script := [Script.idle] }
def withError : State := { vec with err := 1#6, firstErr := 1#3, script := [Script.idle] }

/-- BITS with a NOP, and with `rst` (beside a CTRL write) and then an IDLE. -/
def nopInBits : State := { inBits with script := [Script.nop] }
def resetsInBits : State :=
  { inBits with script := [{ rst := true, word := 0x600000000001#47 }, Script.idle] }

/-- A `rst` cycle that presents a TRANSMIT, and a cycle after a frame that presents none. -/
def resetsOverTransmit : State := { vec with script := [{ rst := true, word := 0x600400030001#47 }] }
def finishedIdle : State := { afterFrame with script := [Script.idle] }

/-- Other configurations: none LED (no block), 16 MHz, and the widest fields. -/
def noLeds : State := { vec with config := { vec.config with nLeds := 0 } }
def mhz16 : Config := { Config.vectorDefault with fClkHz := 16000000 }
def widest : State := { vec with config := { vec.config with nLeds := 1024, pinId := 255 } }

/-- The call of doc §8's three colors. -/
def threeColors : List (Byte × Byte × Byte) := [(255#8, 0#8, 0#8), (0#8, 255#8, 0#8), (0#8, 0#8, 255#8)]
def calling : State :=
  { vec with script := Script.callLines (fun _ => false) vec.fb vec.oe threeColors 3 ++ [Script.idle] }

/-- The empty BITS cycle of a TRANSMIT of 0. -/
def emptyBits : State := { inBits with cnt := 0#11 }

/-- An accepting cycle: `idleOn` with a TRANSMIT of `n` and then IDLE for long enough. -/
def accepting (n : Nat) : State :=
  { idleOn with script := Script.transmit n :: List.replicate 2000 Script.idle }

def nextState (o : Host.Outcome State Fault Refusal) : Option State :=
  match o with
  | .next t => some t
  | .fault _ => none
  | .refused _ => none

/-- One step from `s` with the word `w` presented. -/
def stepWord (s : State) (w : Nat) : Option State := nextState (step (s.withFetchWord 48 w))

/-- The columns of V-ENC: rdata, STATUS in the next cycle, OE and FB[2] after the cycle. -/
def venc (w : Nat) : Option (Word × Word × Bool × Color) :=
  (stepWord vec w).map (fun t => (t.out.busRdata, statusWord t, t.oe, FrameBuffer.read t.fb 2))

/-! ### Decoding: one word for each constructor, written out in 30_encoding.md R64 and 95_test_vectors.md V-ENC -/

theorem test_decode_idle : decodeWord 0x3FFFFFFFFFFF#47 = .idle .write 0x1FFF#13 0xFFFFFFFF#32 := by decide
theorem test_decode_badAlignOdd : decodeWord 0x400900000000#47 = .badAlignOdd .read 0x0009#13 0#32 := by decide
theorem test_decode_badAlignHalf : decodeWord 0x600200000001#47 = .badAlignHalf .write 0x0002#13 1#32 := by decide
theorem test_decode_rdCtrl : decodeWord 0x400000000000#47 = .rdCtrl 0#32 := by decide
theorem test_decode_wrCtrl : decodeWord 0x6000FFFFFFFF#47 = .wrCtrl 0xFFFFFFFF#32 := by decide
theorem test_decode_rdCmd : decodeWord 0x400400000000#47 = .rdCmd 0#32 := by decide
theorem test_decode_nop : decodeWord 0x600400000000#47 = .nop := by decide
theorem test_decode_transmit : decodeWord 0x6004FFFF0001#47 = .transmit 65535#16 := by decide
theorem test_decode_cmdReserved : decodeWord 0x600400000101#47 = .cmdReserved 0x00000101#32 := by decide
theorem test_decode_rdStatus : decodeWord 0x4008DEADBEEF#47 = .rdStatus 0xDEADBEEF#32 := by decide
theorem test_decode_wrStatus : decodeWord 0x6008FFFFFFFF#47 = .wrStatus 0xFFFFFFFF#32 := by decide
theorem test_decode_rdXcount : decodeWord 0x400C00000000#47 = .rdXcount 0#32 := by decide
theorem test_decode_wrXcount : decodeWord 0x600C00000005#47 = .wrXcount 5#32 := by decide
theorem test_decode_rdPos : decodeWord 0x401000000000#47 = .rdPos 0#32 := by decide
theorem test_decode_wrPos : decodeWord 0x601000000000#47 = .wrPos 0#32 := by decide
theorem test_decode_rdConfig : decodeWord 0x401400000000#47 = .rdConfig 0#32 := by decide
theorem test_decode_wrConfig : decodeWord 0x601400000008#47 = .wrConfig 8#32 := by decide
theorem test_decode_rdTiming0 : decodeWord 0x401800000000#47 = .rdTiming0 0#32 := by decide
theorem test_decode_wrTiming0 : decodeWord 0x601800000000#47 = .wrTiming0 0#32 := by decide
theorem test_decode_rdTiming1 : decodeWord 0x401C00000000#47 = .rdTiming1 0#32 := by decide
theorem test_decode_wrTiming1 : decodeWord 0x601C00000000#47 = .wrTiming1 0#32 := by decide
theorem test_decode_rdFclk : decodeWord 0x402000000000#47 = .rdFclk 0#32 := by decide
theorem test_decode_wrFclk : decodeWord 0x602000000000#47 = .wrFclk 0#32 := by decide
theorem test_decode_rdFb : decodeWord 0x500C00000000#47 = .rdFb 3#10 0#32 := by decide
theorem test_decode_wrFb : decodeWord 0x7FFC00000000#47 = .wrFb 1023#10 0#32 := by decide
theorem test_decode_badAddr : decodeWord 0x402400000000#47 = .badAddr .read 0x0024#13 0#32 := by decide

/-! ### V-ENC: one step from reset for each row -/

/-- `IDLE`. -/
theorem test_venc_idle : venc 0x000000000000 = some (0x0#32, 0x00000000#32, false, 0x5A5A5A#24) := by
  decide +kernel
/-- `RD 0x0009`. -/
theorem test_venc_badAlignOdd : venc 0x400900000000 = some (0x0#32, 0x00010100#32, false, 0x5A5A5A#24) := by
  decide +kernel
/-- `WR 0x0002, 1`. -/
theorem test_venc_badAlignHalf : venc 0x600200000001 = some (0x0#32, 0x00010100#32, false, 0x5A5A5A#24) := by
  decide +kernel
/-- `RD CTRL`. -/
theorem test_venc_rdCtrl : venc 0x400000000000 = some (0x0#32, 0x00000000#32, false, 0x5A5A5A#24) := by
  decide +kernel
/-- `WR CTRL, 0xFFFF_FFFF`. -/
theorem test_venc_wrCtrl : venc 0x6000FFFFFFFF = some (0x0#32, 0x00000000#32, true, 0x5A5A5A#24) := by
  decide +kernel
/-- `RD CMD`. -/
theorem test_venc_rdCmd : venc 0x400400000000 = some (0x0#32, 0x00000000#32, false, 0x5A5A5A#24) := by
  decide +kernel
/-- `NOP`. -/
theorem test_venc_nop : venc 0x600400000000 = some (0x0#32, 0x00000000#32, false, 0x5A5A5A#24) := by
  decide +kernel
/-- `TRANSMIT 3 (OE = 0)`. -/
theorem test_venc_transmit_pin : venc 0x600400030001 = some (0x0#32, 0x00040800#32, false, 0x5A5A5A#24) := by
  decide +kernel
/-- `WR CMD, 0x0000_0002`. -/
theorem test_venc_cmdReserved : venc 0x600400000002 = some (0x0#32, 0x00020200#32, false, 0x5A5A5A#24) := by
  decide +kernel
/-- `RD STATUS`. -/
theorem test_venc_rdStatus : venc 0x400800000000 = some (0x0#32, 0x00000000#32, false, 0x5A5A5A#24) := by
  decide +kernel
/-- `WR STATUS, 0xFFFF_FFFF`. -/
theorem test_venc_wrStatus : venc 0x6008FFFFFFFF = some (0x0#32, 0x00010100#32, false, 0x5A5A5A#24) := by
  decide +kernel
/-- `RD XCOUNT`. -/
theorem test_venc_rdXcount : venc 0x400C00000000 = some (0x0#32, 0x00000000#32, false, 0x5A5A5A#24) := by
  decide +kernel
/-- `WR XCOUNT, 5`. -/
theorem test_venc_wrXcount : venc 0x600C00000005 = some (0x0#32, 0x00010100#32, false, 0x5A5A5A#24) := by
  decide +kernel
/-- `RD POS`. -/
theorem test_venc_rdPos : venc 0x401000000000 = some (0x0#32, 0x00000000#32, false, 0x5A5A5A#24) := by
  decide +kernel
/-- `WR POS, 0`. -/
theorem test_venc_wrPos : venc 0x601000000000 = some (0x0#32, 0x00010100#32, false, 0x5A5A5A#24) := by
  decide +kernel
/-- `RD CONFIG`. -/
theorem test_venc_rdConfig : venc 0x401400000000 = some (0x60003#32, 0x00000000#32, false, 0x5A5A5A#24) := by
  decide +kernel
/-- `WR CONFIG, 8`. -/
theorem test_venc_wrConfig : venc 0x601400000008 = some (0x0#32, 0x00010100#32, false, 0x5A5A5A#24) := by
  decide +kernel
/-- `RD TIMING0`. -/
theorem test_venc_rdTiming0 : venc 0x401800000000 = some (0xA0703#32, 0x00000000#32, false, 0x5A5A5A#24) := by
  decide +kernel
/-- `WR TIMING0, 0`. -/
theorem test_venc_wrTiming0 : venc 0x601800000000 = some (0x0#32, 0x00010100#32, false, 0x5A5A5A#24) := by
  decide +kernel
/-- `RD TIMING1`. -/
theorem test_venc_rdTiming1 : venc 0x401C00000000 = some (0x190#32, 0x00000000#32, false, 0x5A5A5A#24) := by
  decide +kernel
/-- `WR TIMING1, 0`. -/
theorem test_venc_wrTiming1 : venc 0x601C00000000 = some (0x0#32, 0x00010100#32, false, 0x5A5A5A#24) := by
  decide +kernel
/-- `RD FCLK`. -/
theorem test_venc_rdFclk : venc 0x402000000000 = some (0x7A1200#32, 0x00000000#32, false, 0x5A5A5A#24) := by
  decide +kernel
/-- `WR FCLK, 0`. -/
theorem test_venc_wrFclk : venc 0x602000000000 = some (0x0#32, 0x00010100#32, false, 0x5A5A5A#24) := by
  decide +kernel
/-- `RD FB+8`. -/
theorem test_venc_rdFb : venc 0x500800000000 = some (0x5A5A5A#32, 0x00000000#32, false, 0x5A5A5A#24) := by
  decide +kernel
/-- `WR FB+8, 0xAB00_00FF`. -/
theorem test_venc_wrFb : venc 0x7008AB0000FF = some (0x0#32, 0x00000000#32, false, 0x0000FF#24) := by
  decide +kernel
/-- `RD FB+12 (index 3 = N_LEDS)`. -/
theorem test_venc_rdFb_beyond : venc 0x500C00000000 = some (0x0#32, 0x00010100#32, false, 0x5A5A5A#24) := by
  decide +kernel
/-- `WR FB+12, 1`. -/
theorem test_venc_wrFb_beyond : venc 0x700C00000001 = some (0x0#32, 0x00010100#32, false, 0x5A5A5A#24) := by
  decide +kernel
/-- `WR 0x0FFC, 1`. -/
theorem test_venc_badAddr : venc 0x6FFC00000001 = some (0x0#32, 0x00010100#32, false, 0x5A5A5A#24) := by
  decide +kernel

/-! ### Commands (V-CMD), the sequencer (V-SEQ), errors (V-ERR), reset (V-RST) -/

/-- C-1: an accepted TRANSMIT of 3. -/
theorem test_transmit_accepted :
    (stepWord idleOn 0x600400030001).map (fun t => (statusWord t, posWord t, t.cnt, t.w)) =
      some (0x00000013#32, 0x00170000#32, 3#11, 0x5A5A5A#24) := by decide +kernel

/-- C-2: a count one above N_LEDS. -/
theorem test_transmit_count :
    (stepWord idleOn 0x600400040001).map (fun t => (statusWord t, t.cnt)) = some (0x00051000#32, 0#11) := by
  decide +kernel

/-- C-7: a TRANSMIT in the last RESET cycle is refused and the block goes IDLE, done. -/
theorem test_transmit_last_reset_cycle :
    (stepWord lastReset 0x600400010001).map statusWord = some 0x00030408#32 := by decide +kernel

/-- C-10: a reserved command in BITS raises ERR_CMD, not ERR_BUSY. -/
theorem test_cmdReserved_in_bits :
    (stepWord inBits 0x600400000002).map statusWord = some 0x00020213#32 := by decide +kernel

/-- X-1: an index outside the buffer outranks BUSY. -/
theorem test_wrFb_beyond_in_bits :
    (stepWord inBits 0x700C00000000).map statusWord = some 0x00010113#32 := by decide +kernel

/-- X-2: a frame-buffer write in BITS is dropped. -/
theorem test_wrFb_in_bits :
    (stepWord inBits 0x700000000000).map (fun t => (statusWord t, FrameBuffer.read t.fb 0)) =
      some (0x00062013#32, 0x5A5A5A#24) := by decide +kernel

/-- X-3: a CTRL write in BITS is dropped. -/
theorem test_wrCtrl_in_bits :
    (stepWord inBits 0x600000000000).map (fun t => (statusWord t, t.oe)) = some (0x00030413#32, true) := by
  decide +kernel

/-- E6, cycle 7: POS in the first cycle of the first slot. -/
theorem test_rdPos_first_cycle :
    (stepWord inBits 0x401000000000).map (fun t => (t.out.busRdata, t.out.pinOut)) = some (0x00170000#32, true) := by
  decide +kernel

/-- E6, cycles 246 to 247: from the last cycle of LED 0 to the first of LED 1. -/
theorem test_slot_next_led :
    (stepWord ledEnd 0).map posWord = some 0x00170001#32 := by decide +kernel

/-- E6, cycles 726 to 727: from the last slot to RESET, the inhibit fallen. -/
theorem test_last_slot_to_reset :
    (stepWord lastSlot 0).map (fun t => (posWord t, statusWord t)) = some (0x00000003#32, 0x00000005#32) := by
  decide +kernel

/-- P2, cycles 4 to 5: the empty BITS cycle. -/
theorem test_empty_bits :
    (stepWord emptyBits 0).map (fun t => (t.phase, t.out.irqInhibit, t.out.pinOut)) = some (.reset, true, false) := by
  decide +kernel

/-- R-1 and R-3: a `rst` cycle in BITS with a CTRL write presented. -/
theorem test_rst_in_bits :
    (nextState (step resetsInBits)).map
      (fun t => (statusWord t, t.oe, t.out.pinOe, FrameBuffer.read t.fb 0)) =
      some (0#32, false, false, 0x5A5A5A#24) := by decide +kernel

/-- R-4: a run without a first `rst` cycle is refused. -/
theorem test_no_rst_refused :
    (match step noRstYet with
      | .refused .noResetYet => true
      | _ => false) = true := by decide +kernel

/-- V-CFG: the largest integer-MHz class is valid, 197 MHz fails V5 alone, 5 MHz fails V3, N_LEDS = 1025 fails V0. -/
theorem test_config_checks :
    Config.PassesChecks ⟨196000000, 3, 6, []⟩ ∧ ¬ Config.V5 ⟨197000000, 3, 6, []⟩ ∧
    ¬ Config.V3 ⟨5000000, 3, 6, []⟩ ∧ ¬ Config.V0 ⟨8000000, 1025, 6, []⟩ := by decide +kernel

/-- V-CFG, the row of 16 MHz. -/
theorem test_config_16MHz :
    (mhz16.t0hCyc, mhz16.t1hCyc, mhz16.tbitCyc, mhz16.tresetCyc, timing0Word mhz16) = (6, 14, 21, 800, 0x00150E06#32) := by decide +kernel

/-- V-SEQ: BUSYCYC at 8 MHz. -/
theorem test_busyCycles :
    [0, 1, 3, 1024].map Config.vectorDefault.busyCycles = [401, 640, 1120, 246160] := by decide +kernel

/-- R68: the lines of the encoding table. -/
theorem test_script_words :
    [Script.pincfg true, Script.transmit 3, Script.putled 1 0#8 255#8 0#8].map (fun c => c.word) =
      [0x600000000001#47, 0x600400030001#47, 0x70040000FF00#47] := by decide +kernel

/-- R82: the full sequence, and the one with OE already 1 and word 0 already held and skipped. -/
theorem test_call_lines :
    (Script.callLines (fun _ => false) [0xFF0000#24, 0#24, 0#24] false threeColors 2).map (fun c => c.word) =
      [0x700000FF0000#47, 0x70040000FF00#47, 0x600000000001#47, 0x600400020001#47] ∧
    (Script.callLines (fun _ => true) [0xFF0000#24, 0#24, 0#24] true threeColors 2).map (fun c => c.word) =
      [0x70040000FF00#47, 0x600400020001#47] := by decide +kernel

/-- The receiver oracle on one slot of each bit at 8 MHz (V-SEQ) and a reset pulse. -/
theorem test_receive :
    receive Config.vectorDefault 0 0
      (List.replicate 7 true ++ List.replicate 3 false ++ List.replicate 3 true ++ List.replicate 407 false) =
      [.bit true, .bit false, .frameEnd] := by decide +kernel

/-- A table word decodes through the bytes; a word with bit 47 set, and a longer one, do not. -/
theorem test_decodeTableWord :
    decodeTableWord 48 0x600400030001 = some (.transmit 3#16) ∧ decodeTableWord 48 0x800000000000 = none ∧
    decodeTableWord 64 0 = none := by decide +kernel

/-! ### `Instr.wf` refuses an ill-formed term for each of its checks -/

theorem test_wf_badAlignOdd : (Instr.badAlignOdd .read 0x0008#13 0#32).wf = false := by decide
theorem test_wf_badAlignHalf_aligned : (Instr.badAlignHalf .read 0x0004#13 0#32).wf = false := by decide
theorem test_wf_badAlignHalf_odd : (Instr.badAlignHalf .read 0x0003#13 0#32).wf = false := by decide
theorem test_wf_cmdReserved_nop : (Instr.cmdReserved 0#32).wf = false := by decide
theorem test_wf_cmdReserved_transmit : (Instr.cmdReserved 0x00030001#32).wf = false := by decide
theorem test_wf_badAddr_register : (Instr.badAddr .write 0x0020#13 0#32).wf = false := by decide
theorem test_wf_badAddr_frame_buffer : (Instr.badAddr .read 0x1FFC#13 0#32).wf = false := by decide
theorem test_wf_badAddr_misaligned : (Instr.badAddr .read 0x0025#13 0#32).wf = false ∧
    (Instr.badAddr .read 0x0026#13 0#32).wf = false := by decide
theorem test_wf_accepts_boundaries : (Instr.badAddr .read 0x0024#13 0#32).wf = true ∧
    (Instr.badAddr .read 0x0FFC#13 0#32).wf = true := by decide

/-! ### Witnesses: the hypotheses of each statement are met, clause by clause -/

/-! The states the witnesses use are running blocks. -/

theorem running_vec : Running vec := by decide +kernel
theorem running_idleOn : Running idleOn := by decide +kernel
theorem running_inBits : Running inBits := by decide +kernel
theorem running_lastSlot : Running lastSlot := by decide +kernel
theorem running_lastReset : Running lastReset := by decide +kernel
theorem running_emptyBits : Running emptyBits := by decide +kernel
theorem running_lastButOneReset : Running lastButOneReset := by decide +kernel
theorem running_afterFrame : Running afterFrame := by decide +kernel
theorem running_lastButOneCycle : Running lastButOneCycle := by decide +kernel
theorem running_slotEnd : Running slotEnd := by decide +kernel
theorem running_ledEnd : Running ledEnd := by decide +kernel
theorem running_readsStatus : Running readsStatus := by decide +kernel
theorem running_withError : Running withError := by decide +kernel
theorem running_nopInBits : Running nopInBits := by decide +kernel
theorem running_calling : Running calling := by decide +kernel

theorem noRst_accepting (n k : Nat) (hk : k ≤ 2001) : NoRst k (accepting n) := by
  have hl : (accepting n).script.length = 2001 := by
    simp only [accepting, List.length_cons, List.length_replicate]
  refine noRst_of_script (by rw [hl]; exact hk) fun c hc => ?_
  rcases List.mem_cons.mp hc with rfl | hc
  · rfl
  · rw [List.eq_of_mem_replicate hc]; rfl

theorem accepts_three : Accepts 3#16 (accepting 3) := by
  unfold Accepts
  refine ⟨⟨⟨?_, ?_, fun _ => ?_⟩, rfl⟩, rfl, ?_, rfl, rfl, ?_⟩ <;> decide +kernel

theorem accepts_zero : Accepts 0#16 (accepting 0) := by
  unfold Accepts
  refine ⟨⟨⟨?_, ?_, fun _ => ?_⟩, rfl⟩, rfl, ?_, rfl, rfl, ?_⟩ <;> decide +kernel

theorem witness_EncodeThenDecodeGivesInstruction : (Instr.badAddr .write 0x0FFC#13 1#32).wf = true ∧
    (Instr.wrFb 1023#10 0#32).wf = true := by decide

theorem witness_BytesDecodeExactlyWhenTransaction :
    (encodeBytes .nop).length = 6 ∧ bytesToNat (encodeBytes .nop) < 2 ^ 47 ∧ (0x7FFFFFFFFFFF : Nat) < 2 ^ 47 := by
  decide +kernel

theorem witness_PseudoInstructionsDecode : (65535 : Nat) < 2 ^ 16 ∧ (1023 : Nat) < 1024 := by decide

theorem witness_StepRunsDecodedInstruction :
    Running readsStatus ∧ (readsStatus.inputAt 0).rst = false ∧
    decodeWord (readsStatus.inputAt 0).word = .rdStatus 0#32 := by decide +kernel

theorem witness_RstCycleResets :
    resetsInBits.config.Valid ∧ resetsInBits.FbWf ∧ (resetsInBits.inputAt 0).rst = true ∧
    ((rstEdge resetsInBits.consumeInput).inputAt 0).rst = false := by decide +kernel

/-- Each of the four outcomes of `step` has a state. -/
theorem witness_StepStopsExactly :
    Running readsStatus ∧ ¬ noLeds.config.Valid ∧
    (noRstYet.config.Valid ∧ (noRstYet.inputAt 0).rst = false ∧ noRstYet.rstSeen = false) ∧
    (brokenBit.config.Valid ∧ (brokenBit.inputAt 0).rst = false ∧ brokenBit.rstSeen = true ∧
      ¬ brokenBit.Invariants) := by
  have h6 : ¬ brokenBit.I6 := by decide +kernel
  refine ⟨running_readsStatus, ?_, ?_, ?_, ?_, ?_, fun h => h6 h.2.2.2.2.2.1⟩ <;> decide +kernel

theorem witness_InvariantsHoldAtReset : Config.vectorDefault.Valid := by decide +kernel

theorem witness_EveryCycleKeepsInvariants :
    Running inBits ∧ (∃ t, exec .nop inBits = .next t) ∧
    (∃ t, step nopInBits = .next t) ∧ nopInBits.Inv := by
  refine ⟨by decide +kernel, ⟨_, rfl⟩, ?_, by decide +kernel⟩
  have h : (nextState (step nopInBits)).isSome = true := by decide +kernel
  cases hs : step nopInBits with
  | next t => exact ⟨t, rfl⟩
  | fault r => simp [hs, nextState] at h
  | refused r => simp [hs, nextState] at h

theorem witness_RunsNeverStop : Running State.reset := by decide +kernel

theorem witness_LatchedWordStaysFrameBufferWord :
    Running inBits ∧ inBits.phase = .bits ∧ inBits.w = FrameBuffer.read inBits.fb inBits.led.toNat ∧
    ((stepWord inBits 0).map (fun t => t.phase) = some .bits) := by decide +kernel

/-- The three clauses at a state in each phase: after a frame, in the reset pulse, in the empty BITS cycle. -/
theorem witness_RestPositionIsKept :
    (Running afterFrame ∧ Running lastReset ∧ Running emptyBits) ∧ ∀ s ∈ [afterFrame, lastReset, emptyBits],
      (s.phase ≠ .reset → s.rcnt = 0#24) ∧
      (s.phase ≠ .bits → s.cyc = 0#8 ∧ s.led = s.cnt ∧ (0 < s.cnt.toNat → s.bit = 0#5)) ∧
      (s.phase = .bits → s.cnt.toNat = 0 → s.cyc = 0#8 ∧ s.led = 0#11 ∧ s.bit = 23#5) ∧
      (stepWord s 0).isSome = true := by
  refine ⟨⟨running_afterFrame, running_lastReset, running_emptyBits⟩, ?_⟩
  decide +kernel

theorem witness_RunsKeepConfigurationAndSize : run 0 vec = .next vec := rfl

theorem witness_SlotDurationWithinTolerance :
    Config.vectorDefault.Valid ∧ mhz16.Valid := by decide +kernel

theorem witness_ConstantRegisterReadsGiveTheirFields : vec.config.Valid ∧
    widest.config.Valid := by decide +kernel

/-- The last word inside the frame buffer, and the first and the last index outside. -/
theorem witness_FrameBufferReadGivesItsWord :
    (2#10).toNat < vec.config.nLeds ∧ vec.config.nLeds ≤ (3#10).toNat ∧ vec.config.nLeds ≤ (1023#10).toNat := by decide

/-- No error, a first error, and one already recorded (95_test_vectors.md P3, cycle 8). -/
theorem witness_ErrorRecordsItsBitAlone :
    errorCode vec .nop = none ∧ errorCode vec (.wrStatus 0#32) = some 1 ∧
    errorCode { inBits with err := 0b101100#6, firstErr := 4#3 } (.wrCtrl 0#32) = some 3 := by decide +kernel

theorem witness_ErrorPriority :
    (inBits.phase ≠ .idle ∧ inBits.config.nLeds < (2000#16).toNat) ∧
    (vec.phase = .idle ∧ vec.oe = false ∧ vec.config.nLeds < (4#16).toNat) ∧
    (lastReset.phase ≠ .idle ∧ lastReset.config.nLeds ≤ (3#10).toNat) := by decide +kernel

theorem witness_ErrorsAreSticky :
    NoRst 1 withError ∧ (∃ t, run 1 withError = .next t) ∧ withError.err.getLsbD 0 = true ∧
    withError.firstErr ≠ 0#3 := by
  refine ⟨noRst_of_script (by decide) (by decide), ?_, by decide, by decide⟩
  have h : (nextState (step withError)).isSome = true := by decide +kernel
  cases hs : step withError with
  | next t => exact ⟨t, (run_succ_next (k := 0) hs).trans (run_zero t)⟩
  | fault r => simp [hs, nextState] at h
  | refused r => simp [hs, nextState] at h

theorem witness_HostDutiesDecideErrors :
    keepsDuties idleOn (.transmit 3#16) = true ∧ keepsDuties idleOn (.transmit 4#16) = false ∧
    keepsDuties inBits (.wrFb 2#10 0#32) = false ∧ (∃ t, exec (.transmit 3#16) idleOn = .next t) ∧
    (∃ t, exec (.transmit 4#16) idleOn = .next t) := by
  refine ⟨by decide +kernel, by decide +kernel, by decide +kernel, ⟨_, rfl⟩, ⟨_, rfl⟩⟩

theorem witness_CtrlWriteSetsOutputEnable : vec.phase = .idle ∧ lastReset.phase ≠ .idle := by decide +kernel

/-- At a count of 0 and of `N_LEDS`. -/
theorem witness_TransmitIsAccepted : idleOn.config.Valid ∧ idleOn.phase = .idle ∧ idleOn.oe = true ∧
    (0#16).toNat ≤ idleOn.config.nLeds ∧ (3#16).toNat ≤ idleOn.config.nLeds := by decide +kernel

theorem witness_TransmitIsRefused : lastReset.phase ≠ .idle ∧ (vec.phase = .idle ∧ vec.oe = false) ∧
    (idleOn.phase = .idle ∧ idleOn.oe = true ∧ idleOn.config.nLeds < (4#16).toNat) := by decide +kernel

theorem witness_FrameBufferWriteStoresItsWord : vec.FbWf ∧ (2#10).toNat < vec.config.nLeds ∧ vec.phase = .idle ∧
    inBits.FbWf ∧ (2#10).toNat < inBits.config.nLeds ∧ inBits.phase ≠ .idle ∧ vec.config.nLeds ≤ (3#10).toNat := by
  decide +kernel

theorem witness_WrittenWordIsReadNextCycle : vec.FbWf ∧ vec.phase = .idle ∧ (2#10).toNat < vec.config.nLeds ∧
    ∃ t, exec (.wrFb 2#10 0xAB0000FF#32) vec = .next t := ⟨by decide, rfl, by decide, _, rfl⟩

theorem witness_ReadsAndRefusedAccessesFrame : ∃ t, exec (.rdFb 2#10 0#32) inBits = .next t := ⟨_, rfl⟩

theorem witness_WritesFrame :
    (∃ t, exec (.wrCtrl 1#32) vec = .next t) ∧ vec.phase = .idle ∧ (∃ t, exec (.wrCtrl 1#32) inBits = .next t) ∧
    inBits.phase ≠ .idle ∧ (∃ t, exec (.transmit 3#16) idleOn = .next t ∧ t.phase ≠ (seq idleOn).phase) ∧
    (∃ t, exec (.transmit 4#16) idleOn = .next t ∧ t.phase = (seq idleOn).phase) ∧
    (∃ t, exec (.wrFb 0#10 1#32) vec = .next t) :=
  ⟨⟨_, rfl⟩, rfl, ⟨_, rfl⟩, by decide, ⟨_, rfl, by decide⟩, ⟨_, rfl, rfl⟩, ⟨_, rfl⟩⟩

/-- A step that changes a frame-buffer word. -/
theorem witness_OnlyIdleHostWritesChangeFrameBuffer :
    (stepWord vec 0x7008AB0000FF).map
      (fun t => decide (FrameBuffer.read t.fb 2 ≠ FrameBuffer.read vec.fb 2)) = some true := by decide +kernel

theorem witness_InterruptsHeldDuringBits : Running inBits ∧ inBits.phase = .bits ∧ Running lastReset ∧
    lastReset.phase ≠ .bits ∧ (∃ t, exec .nop inBits = .next t) ∧ (∃ t, exec .nop lastReset = .next t) :=
  ⟨by decide +kernel, rfl, by decide +kernel, by decide, ⟨_, rfl⟩, ⟨_, rfl⟩⟩

theorem witness_IdleHoldsUntilTransmit : idleOn.phase = .idle ∧
    ∃ t, exec (.transmit 3#16) idleOn = .next t ∧ t.phase ≠ .idle := ⟨rfl, _, rfl, by decide⟩

theorem witness_EmptyBitsCycleStartsReset : emptyBits.phase = .bits ∧ emptyBits.cnt.toNat = 0 := by decide

/-- The first cycle, the last but one, the end of a slot, and the end of an LED that is not the last; and, for what every case keeps, the end
of the last slot. -/
theorem witness_SlotsAdvanceBitByBit :
    (∀ s ∈ [inBits, lastButOneCycle, slotEnd, ledEnd, lastSlot],
      Running s ∧ s.phase = .bits ∧ 0 < s.cnt.toNat) ∧
    lastButOneCycle.cyc.toNat < lastButOneCycle.config.tbitCyc - 1 ∧
    (slotEnd.cyc.toNat = slotEnd.config.tbitCyc - 1 ∧ 0 < slotEnd.bit.toNat) ∧
    (ledEnd.cyc.toNat = ledEnd.config.tbitCyc - 1 ∧ ledEnd.bit.toNat = 0 ∧
      ledEnd.led.toNat + 1 < ledEnd.cnt.toNat) := by decide +kernel

theorem witness_LastSlotStartsReset : Running lastSlot ∧ lastSlot.phase = .bits ∧ 0 < lastSlot.cnt.toNat ∧
    lastSlot.cyc.toNat = lastSlot.config.tbitCyc - 1 ∧ lastSlot.bit.toNat = 0 ∧
    lastSlot.led.toNat + 1 = lastSlot.cnt.toNat := by decide +kernel

theorem witness_ResetPulseCountsAndEnds : Running lastReset ∧ Running lastButOneReset ∧
    (lastReset.phase = .reset ∧ lastReset.rcnt.toNat = lastReset.config.tresetCyc - 1) ∧
    (lastButOneReset.phase = .reset ∧ lastButOneReset.rcnt.toNat < lastButOneReset.config.tresetCyc - 1) := by
  refine ⟨running_lastReset, running_lastButOneReset, ?_, ?_⟩ <;> decide +kernel

theorem witness_HostCannotDisturbTransmission : inBits.phase ≠ .idle ∧ lastReset.phase ≠ .idle := by decide

/-- One accepting cycle for TransmissionTimeline, SlotWaveform, InterruptInhibitSpansSlots, BusyCyclesOfTransmission,
TransmissionEndsAndWaitIdleEnds and ReceiverDecodesFrame: a TRANSMIT of 3 with no `rst` for its BUSYCYC = 1120 cycles. -/
theorem witness_accepted_transmission : Accepts 3#16 (accepting 3) ∧ 1 ≤ (3#16).toNat ∧
    24 * (3#16).toNat * (accepting 3).config.tbitCyc + (accepting 3).config.tresetCyc = 1120 ∧
    (accepting 3).config.busyCycles (3#16).toNat = 1120 ∧ NoRst (1 + 1120) (accepting 3) :=
  ⟨accepts_three, by decide, by decide +kernel, by decide +kernel, noRst_accepting 3 _ (by decide)⟩

/-- For EmptyTransmissionStillResets, and BusyCyclesOfTransmission at `n = 0`. -/
theorem witness_EmptyTransmissionStillResets : Accepts 0#16 (accepting 0) ∧
    (accepting 0).config.tresetCyc = 400 ∧ NoRst (2 + 400) (accepting 0) :=
  ⟨accepts_zero, by decide +kernel, noRst_accepting 0 _ (by decide)⟩

theorem witness_CallSequenceStagesColors :
    Running calling ∧ calling.phase = .idle ∧ 3 ≤ threeColors.length ∧ 3 ≤ calling.config.nLeds ∧
    calling.script = Script.callLines (fun _ => false) calling.fb calling.oe threeColors 3 ++ [Script.idle] := by
  decide +kernel

theorem witness_CallReturnsAfterResetPulse :
    Running vec ∧ vec.phase = .idle ∧ 3 ≤ threeColors.length ∧ 3 ≤ vec.config.nLeds ∧
    vec.config.busyCycles 3 + 1 ≤ 1121 := by decide +kernel

/-- With `witness_accepted_transmission` for the first clause: a TRANSMIT beside `rst`, and a finished cycle. -/
theorem witness_RunFinishesWhenIdleAndNothingPending :
    (∃ c, (resetsOverTransmit.inputAt 0).rst = true ∧ decodeWord (resetsOverTransmit.inputAt 0).word = .transmit c) ∧
    (Finished 0 finishedIdle ∧ run 0 finishedIdle = .next finishedIdle) := by
  refine ⟨⟨3#16, by decide +kernel⟩, ⟨⟨finishedIdle, run_zero _, by decide⟩, fun j count hj hd => ?_⟩, run_zero _⟩
  obtain rfl : j = 0 := by omega
  exact absurd hd (by decide +revert +kernel)

/-! ### The host's two readings of a table word -/

/-- A word presented after reset is the first that runs: STATUS is read as 0. -/
theorem test_withFetchWord_first_after_reset :
    (stepWord State.reset 0x400800000000).map (fun t => t.out.busRdata) = some 0#32 ∧
    (stepWord State.reset 0x600000000001).map (fun t => t.oe) = some true := by decide +kernel

end Sys2Proof.Tests
end

/-! PROOFS. The bounds a valid configuration gives (10_state.md rules R17 to R19), and the fields of the four constant
registers (R37 to R40). -/

namespace Sys2Proof.Config

/-! ### Rounding (R10, R17) -/

/-- `roundCycles` is the nearest integer, halves going up. -/
theorem roundCycles_nearest (tNs f : Nat) :
    2 * (roundCycles tNs f * 10 ^ 9) ≤ 2 * (tNs * f) + 10 ^ 9 ∧
      2 * (tNs * f) < 2 * (roundCycles tNs f * 10 ^ 9) + 10 ^ 9 := by
  unfold roundCycles
  omega

/-- `ceilCycles` is the least integer not below. -/
theorem ceilCycles_least (tNs f : Nat) :
    tNs * f ≤ ceilCycles tNs f * 10 ^ 9 ∧ ceilCycles tNs f * 10 ^ 9 < tNs * f + 10 ^ 9 := by
  unfold ceilCycles
  omega

/-! ### What R18 gives of each number -/

section
variable {c : Config} (h : c.Valid)
include h

theorem Valid.hasV0 : c.V0 := let ⟨_, hV0, _⟩ := h; hV0
theorem Valid.hasV2 : c.V2 := let ⟨_, _, _, hV2, _⟩ := h; hV2
theorem Valid.hasV3 : c.V3 := let ⟨_, _, _, _, hV3, _⟩ := h; hV3
theorem Valid.hasV4 : c.V4 := let ⟨_, _, _, _, _, hV4, _⟩ := h; hV4
theorem Valid.hasV5 : c.V5 := let ⟨_, _, _, _, _, _, hV5⟩ := h; hV5

theorem Valid.fClkHz_pos : 0 < c.fClkHz := h.hasV0.1.1
theorem Valid.fClkHz_lt : c.fClkHz < 2 ^ 32 := h.hasV0.1.2
theorem Valid.nLeds_le : c.nLeds ≤ 1024 := h.hasV0.2.1.2
theorem Valid.pinId_le : c.pinId ≤ 255 := h.hasV0.2.2
theorem Valid.t0hCyc_lt : c.t0hCyc < c.t1hCyc := h.hasV2.1
theorem Valid.t1hCyc_lt : c.t1hCyc < c.tbitCyc := h.hasV2.2
theorem Valid.tbitCyc_le : c.tbitCyc ≤ 255 := h.hasV5.1
theorem Valid.tresetCyc_lt : c.tresetCyc < 2 ^ 24 := Nat.lt_of_le_pred (by decide) h.hasV5.2

theorem Valid.tbitCyc_pos : 0 < c.tbitCyc := Nat.zero_lt_of_lt h.t1hCyc_lt

/-- The reset pulse lasts at least one cycle: its target is above 0. -/
theorem Valid.tresetCyc_pos : 0 < c.tresetCyc := by
  have hf := h.fClkHz_pos
  have hc : tresetNs * c.fClkHz ≤ c.tresetCyc * 10 ^ 9 := (ceilCycles_least tresetNs c.fClkHz).1
  unfold tresetNs at hc
  omega

/-- V3 as the two bounds of R19: 1300 ns and 65 ns to either side. -/
theorem Valid.slot_bounds :
    1235 * c.fClkHz ≤ c.tbitCyc * 10 ^ 9 ∧ c.tbitCyc * 10 ^ 9 ≤ 1365 * c.fClkHz := by
  have hV3 := h.hasV3
  unfold V3 tolPpm tbitNs at hV3
  omega

/-- V4: the high times stand on their sides of the 625 ns threshold. -/
theorem Valid.high_bounds :
    c.t0hCyc * 10 ^ 9 < 625 * c.fClkHz ∧ 625 * c.fClkHz ≤ c.t1hCyc * 10 ^ 9 := h.hasV4

end

/-- The slots of two valid classes differ by at most the 130 ns between the two bounds of R19. -/
theorem Valid.slot_difference {c d : Config} (hc : c.Valid) (hd : d.Valid) :
    c.tbitCyc * 10 ^ 9 * d.fClkHz ≤ d.tbitCyc * 10 ^ 9 * c.fClkHz + 130 * (c.fClkHz * d.fClkHz) :=
  calc c.tbitCyc * 10 ^ 9 * d.fClkHz
      ≤ 1365 * c.fClkHz * d.fClkHz := Nat.mul_le_mul_right _ hc.slot_bounds.2
    _ = 1235 * d.fClkHz * c.fClkHz + 130 * (c.fClkHz * d.fClkHz) := by ring
    _ ≤ d.tbitCyc * 10 ^ 9 * c.fClkHz + 130 * (c.fClkHz * d.fClkHz) :=
      Nat.add_le_add_right (Nat.mul_le_mul_right _ hd.slot_bounds.1) _

end Sys2Proof.Config

namespace Sys2Proof.Machine

/-! ### The fields of the constant registers, cut to their widths -/

/-- The four parts of a word put together from four, from the lowest up. -/
theorem append_four_parts {a b c d : Nat} (p : BitVec a) (q : BitVec b) (r : BitVec c) (x : BitVec d) :
    (p ++ q ++ r ++ x).extractLsb' 0 d = x ∧ (p ++ q ++ r ++ x).extractLsb' d c = r ∧
      (p ++ q ++ r ++ x).extractLsb' (d + c) b = q ∧ (p ++ q ++ r ++ x).extractLsb' (d + c + b) a = p := by
  simp [BitVec.extractLsb'_append_eq_of_le, BitVec.extractLsb'_append_eq_right, Nat.add_assoc]

theorem configWord_fields (c : Config) :
    (configWord c).extractLsb' 0 11 = BitVec.ofNat 11 c.nLeds ∧ (configWord c).extractLsb' 11 5 = 0#5 ∧
      (configWord c).extractLsb' 16 8 = BitVec.ofNat 8 c.pinId ∧ (configWord c).extractLsb' 24 8 = 0#8 :=
  append_four_parts _ _ _ _

theorem timing0Word_fields (c : Config) :
    (timing0Word c).extractLsb' 0 8 = BitVec.ofNat 8 c.t0hCyc ∧
      (timing0Word c).extractLsb' 8 8 = BitVec.ofNat 8 c.t1hCyc ∧
      (timing0Word c).extractLsb' 16 8 = BitVec.ofNat 8 c.tbitCyc ∧ (timing0Word c).extractLsb' 24 8 = 0#8 :=
  append_four_parts _ _ _ _

theorem timing1Word_fields (c : Config) :
    (timing1Word c).extractLsb' 0 24 = BitVec.ofNat 24 c.tresetCyc ∧ (timing1Word c).extractLsb' 24 8 = 0#8 :=
  ⟨BitVec.extractLsb'_append_eq_right, BitVec.extractLsb'_append_eq_left⟩

/-! ### In a valid configuration nothing is cut off -/

section
variable {c : Config} (h : c.Valid)
include h

theorem configWord_numbers :
    ((configWord c).extractLsb' 0 11).toNat = c.nLeds ∧ (configWord c).extractLsb' 11 5 = 0#5 ∧
      ((configWord c).extractLsb' 16 8).toNat = c.pinId ∧ (configWord c).extractLsb' 24 8 = 0#8 := by
  obtain ⟨hn, h11, hp, h24⟩ := configWord_fields c
  have hnl := h.nLeds_le
  have hpl := h.pinId_le
  exact ⟨by rw [hn, BitVec.toNat_ofNat]; omega, h11, by rw [hp, BitVec.toNat_ofNat]; omega, h24⟩

theorem timing0Word_numbers :
    ((timing0Word c).extractLsb' 0 8).toNat = c.t0hCyc ∧ ((timing0Word c).extractLsb' 8 8).toNat = c.t1hCyc ∧
      ((timing0Word c).extractLsb' 16 8).toNat = c.tbitCyc ∧ (timing0Word c).extractLsb' 24 8 = 0#8 := by
  obtain ⟨h0, h1, hb, h24⟩ := timing0Word_fields c
  have h01 := h.t0hCyc_lt
  have h1b := h.t1hCyc_lt
  have hbl := h.tbitCyc_le
  exact ⟨by rw [h0, BitVec.toNat_ofNat]; omega, by rw [h1, BitVec.toNat_ofNat]; omega,
    by rw [hb, BitVec.toNat_ofNat]; omega, h24⟩

theorem timing1Word_numbers :
    ((timing1Word c).extractLsb' 0 24).toNat = c.tresetCyc ∧ (timing1Word c).extractLsb' 24 8 = 0#8 := by
  obtain ⟨hr, h24⟩ := timing1Word_fields c
  exact ⟨by rw [hr, BitVec.toNat_ofNat, Nat.mod_eq_of_lt h.tresetCyc_lt], h24⟩

theorem fclkWord_number : (fclkWord c).toNat = c.fClkHz := by
  rw [fclkWord, BitVec.toNat_ofNat, Nat.mod_eq_of_lt h.fClkHz_lt]

end

/-- A cycle that writes nothing of its own, spelled with the read data as the one output the transaction decides. -/
theorem quietCycle_eq (s : State) (r : Word) :
    quietCycle s r = .next { seq s with out := { outputs s false 0#32 with busRdata := r } } := rfl

/-- Settles O17: three of the counts are `roundCycles` and one is `ceilCycles`. -/
theorem derivedCountsAreRounded : Obligations.DerivedCountsAreRounded := by
  intro c
  refine ⟨fun p hp => ?_, Config.ceilCycles_least Config.tresetNs c.fClkHz⟩
  simp only [List.mem_cons, List.not_mem_nil, or_false] at hp
  obtain rfl | rfl | rfl := hp
  · exact Config.roundCycles_nearest Config.t0hNs c.fClkHz
  · exact Config.roundCycles_nearest Config.t1hNs c.fClkHz
  · exact Config.roundCycles_nearest Config.tbitNs c.fClkHz

/-- Settles O18, from the checks V3 and V4 of R18. -/
theorem slotDurationWithinTolerance : Obligations.SlotDurationWithinTolerance :=
  ⟨fun _ h => ⟨h.slot_bounds.1, h.slot_bounds.2, h.high_bounds⟩, fun _ _ hc hd => hc.slot_difference hd⟩

/-- Settles O22: the bounds of V0, V2 and V5 keep every number inside its field. -/
theorem constantRegisterReadsGiveTheirFields : Obligations.ConstantRegisterReadsGiveTheirFields := fun s _ hv =>
  ⟨⟨_, quietCycle_eq s (configWord s.config), configWord_numbers hv⟩,
    ⟨_, quietCycle_eq s (timing0Word s.config), timing0Word_numbers hv⟩,
    ⟨_, quietCycle_eq s (timing1Word s.config), timing1Word_numbers hv⟩,
    ⟨_, quietCycle_eq s (fclkWord s.config), fclkWord_number hv⟩⟩

end Sys2Proof.Machine

/-! PROOFS. What a cycle does to the frame buffer (10_state.md rule R41, 20_memory.md rule R55). -/

namespace Sys2Proof.Machine

/-- A write that changes what position `a` reads as is one to `a`, and what it wrote is read. -/
theorem FrameBuffer.write_changes_read {fb : FrameBuffer} {i a : Nat} {v : Color}
    (h : FrameBuffer.read (FrameBuffer.write fb i v) a ≠ FrameBuffer.read fb a) :
    i = a ∧ FrameBuffer.read (FrameBuffer.write fb i v) a = v := by
  have hi : i = a := by
    by_contra hne
    exact h (FrameBuffer.read_write_other fb hne v)
  subst hi
  have hlt : i < fb.length := by
    by_contra hge
    exact h (by rw [FrameBuffer.write_beyond (Nat.le_of_not_lt hge)])
  exact ⟨rfl, FrameBuffer.read_write_same hlt v⟩

/-- A cycle keeps the frame buffer, or it is an accepted WR_FB. -/
theorem exec_fb {i : Instr} {s t : State} (h : exec i s = .next t) :
    t.fb = s.fb ∨ ∃ index d, i = .wrFb index d ∧ s.phase = .idle ∧ indexOperand index < s.config.nLeds ∧
      t.fb = FrameBuffer.write s.fb (indexOperand index) (colorOperand d) := by
  rcases exec_cases h with ⟨r, rfl⟩ | ⟨e, rfl⟩ | ⟨d, -, -, rfl⟩ | ⟨n, -, -, -, -, rfl⟩ | ⟨j, d, hi, hp, hj, rfl⟩
  · exact .inl (seq_fb s)
  · exact .inl (seq_fb s)
  · exact .inl (seq_fb s)
  · exact .inl (seq_fb s)
  · exact .inr ⟨j, d, hi, hp, hj, rfl⟩

/-- R41: no cycle resizes the frame buffer. -/
theorem exec_fb_length {i : Instr} {s t : State} (h : exec i s = .next t) : t.fb.length = s.fb.length := by
  rcases exec_fb h with hfb | ⟨_, _, -, -, -, hfb⟩
  · rw [hfb]
  · rw [hfb, FrameBuffer.write_length]

/-- Settles O38: of all that a step can be, only the accepted WR_FB writes the frame buffer. -/
theorem onlyIdleHostWritesChangeFrameBuffer : Obligations.OnlyIdleHostWritesChangeFrameBuffer := by
  intro s t a hs hne
  obtain ⟨-, ⟨-, rfl⟩ | ⟨hrst, -, -, he⟩⟩ := step_cases hs
  · simp at hne
  · rcases exec_fb he with hfb | ⟨index, d, hw, hp, hlt, hfb⟩
    · simp [hfb] at hne
    · rw [State.consumeInput_fb] at hfb
      rw [hfb] at hne ⊢
      obtain ⟨rfl, hread⟩ := FrameBuffer.write_changes_read hne
      exact ⟨hrst, by simpa using hp, by simpa using hlt, index, d, hw, rfl, hread⟩

end Sys2Proof.Machine

/-! PROOFS. R43: each update of the state keeps I1 to I9, hence so does every cycle and every step. -/

namespace Sys2Proof.Machine

open Sys2Proof.Safety

/-! ### The error codes (R128) -/

theorem ErrCode.code_ne_zero (e : ErrCode) : e.code ≠ 0#3 := by cases e <;> decide

theorem ErrCode.mask_ne_zero (e : ErrCode) : e.mask ≠ 0#6 := by cases e <;> decide

/-- I10: the code 0b11 belongs to no phase. -/
theorem Phase.code_ne_three (p : Phase) : p.code ≠ 0b11#2 := by cases p <;> decide

/-! ### The sequencer's updates, under the guards of R85 to R88 -/

section
variable {s : State} (h : s.Invariants)
include h

theorem endEmptyBits_invariants (hv : s.config.Valid) (hp : s.phase = .bits) : (endEmptyBits s).Invariants := by
  obtain ⟨h1, h2, -, h4, -, h6, -, h8, h9⟩ := h
  exact ⟨h1, h2, by simp [State.I3], h4, hv.tresetCyc_pos, h6, by simp [State.I7], fun _ => h8 (by simp [hp]), h9⟩

theorem nextCycle_invariants (hv : s.config.Valid) (hc : s.cyc.toNat < s.config.tbitCyc - 1) :
    (nextCycle s).Invariants := by
  obtain ⟨h1, h2, h3, -, h5, h6, h7, h8, h9⟩ := h
  have hb := hv.tbitCyc_le
  have h4 : (nextCycle s).cyc.toNat < s.config.tbitCyc := by
    rw [nextCycle_cyc, BitVec.toNat_ofNat]
    omega
  exact ⟨h1, h2, h3, h4, h5, h6, h7, h8, h9⟩

theorem nextBit_invariants (hv : s.config.Valid) : (nextBit s).Invariants := by
  obtain ⟨h1, h2, h3, -, h5, h6, h7, h8, h9⟩ := h
  have h6' : (nextBit s).bit.toNat ≤ 23 := by
    rw [nextBit_bit, BitVec.toNat_ofNat]
    omega
  exact ⟨h1, h2, h3, hv.tbitCyc_pos, h5, h6', h7, h8, h9⟩

/-- The LED counter does not wrap: a strip has at most 1024 LEDs. -/
theorem led_succ_toNat (hv : s.config.Valid) (hlt : s.led.toNat < s.cnt.toNat) :
    (BitVec.ofNat 11 (s.led.toNat + 1)).toNat = s.led.toNat + 1 := by
  obtain ⟨h1, -⟩ := h
  have hn := hv.nLeds_le
  rw [BitVec.toNat_ofNat]
  omega

theorem nextLed_invariants (hv : s.config.Valid) (hl : s.led.toNat + 1 < s.cnt.toNat) :
    (nextLed s).Invariants := by
  have hled : (nextLed s).led.toNat = s.led.toNat + 1 := led_succ_toNat h hv (by omega)
  obtain ⟨h1, -, -, -, h5, -, h7, h8, h9⟩ := h
  exact ⟨h1, hled.trans_le hl.le, fun _ _ => hled.trans_lt hl, hv.tbitCyc_pos, h5, Nat.le_refl 23, h7, h8, h9⟩

theorem endLastSlot_invariants (hv : s.config.Valid) (hp : s.phase = .bits) (hn : 0 < s.cnt.toNat) :
    (endLastSlot s).Invariants := by
  obtain ⟨h1, -, h3, -, -, h6, -, h8, h9⟩ := id h
  have hlt := h3 hp hn
  have hled : (endLastSlot s).led.toNat = s.led.toNat + 1 := led_succ_toNat h hv hlt
  exact ⟨h1, hled.trans_le hlt, by simp [State.I3], hv.tbitCyc_pos, hv.tresetCyc_pos, h6, by simp [State.I7],
    fun _ => h8 (by simp [hp]), h9⟩

theorem nextResetCycle_invariants (hv : s.config.Valid) (hc : s.rcnt.toNat < s.config.tresetCyc - 1) :
    (nextResetCycle s).Invariants := by
  obtain ⟨h1, h2, h3, h4, -, h6, h7, h8, h9⟩ := h
  have hr := hv.tresetCyc_lt
  have h5 : (nextResetCycle s).rcnt.toNat < s.config.tresetCyc := by
    rw [nextResetCycle_rcnt, BitVec.toNat_ofNat]
    omega
  exact ⟨h1, h2, h3, h4, h5, h6, h7, h8, h9⟩

theorem endReset_invariants (hv : s.config.Valid) (hp : s.phase = .reset) : (endReset s).Invariants := by
  obtain ⟨h1, h2, -, h4, -, h6, h7, -, h9⟩ := h
  have h7' : (endReset s).I7 := by simpa [State.I7, hp] using h7
  exact ⟨h1, h2, by simp [State.I3], h4, hv.tresetCyc_pos, h6, h7', by simp [State.I8], h9⟩

/-- The sequencer keeps I1 to I9, in each of its cases. -/
theorem seq_invariants (hv : s.config.Valid) : (seq s).Invariants := by
  cases hp : s.phase with
  | idle => rwa [seq_idle hp]
  | bits =>
    rw [seq_bits hp]
    rcases seqBits_cases s with
      ⟨-, hs⟩ | ⟨-, hc, hs⟩ | ⟨-, -, -, hs⟩ | ⟨-, -, -, hl, hs⟩ | ⟨hn, -, -, -, hs⟩ <;> rw [hs]
    · exact endEmptyBits_invariants h hv hp
    · exact nextCycle_invariants h hv hc
    · exact nextBit_invariants h hv
    · exact nextLed_invariants h hv hl
    · exact endLastSlot_invariants h hv hp hn
  | reset =>
    rw [seq_reset hp]
    rcases seqReset_cases s with ⟨hc, hs⟩ | ⟨-, hs⟩ <;> rw [hs]
    · exact nextResetCycle_invariants h hv hc
    · exact endReset_invariants h hv hp

/-! ### The transactions' updates -/

/-- R129: an error leaves both halves of the error record non-zero. -/
theorem raiseErr_invariants (e : ErrCode) {s0 : State} (hf : s.firstErr = s0.firstErr) :
    (raiseErr e s0 s).Invariants := by
  obtain ⟨h1, h2, h3, h4, h5, h6, h7, h8, -⟩ := h
  have hfirst : (raiseErr e s0 s).firstErr ≠ 0#3 := by
    rw [raiseErr_firstErr]
    split
    · exact e.code_ne_zero
    · rwa [hf]
  have herr : (raiseErr e s0 s).err ≠ 0#6 := fun h0 => e.mask_ne_zero (BitVec.or_eq_zero_iff.mp h0).2
  exact ⟨h1, h2, h3, h4, h5, h6, h7, h8, iff_of_false hfirst herr⟩

/-- R109: I8 asks nothing of OE while IDLE. -/
theorem setOe_invariants (hp : s.phase = .idle) (b : Bool) : { s with oe := b : State }.Invariants := by
  obtain ⟨h1, h2, h3, h4, h5, h6, h7, -, h9⟩ := h
  exact ⟨h1, h2, h3, h4, h5, h6, h7, fun hn => absurd hp hn, h9⟩

/-- R76, under the conditions of R75. -/
theorem accept_invariants (hv : s.config.Valid) (ho : s.oe = true) {n : Nat} (hn : n ≤ s.config.nLeds) (s0 : State) :
    (accept n s0 s).Invariants := by
  obtain ⟨-, -, -, -, -, -, -, -, h9⟩ := h
  have hnl := hv.nLeds_le
  have h1 : (accept n s0 s).cnt.toNat ≤ s.config.nLeds := by
    rw [accept_cnt, BitVec.toNat_ofNat]
    omega
  exact ⟨h1, Nat.zero_le _, fun _ hpos => hpos, hv.tbitCyc_pos, hv.tresetCyc_pos, Nat.le_refl 23, by simp [State.I7],
    fun _ => ho, h9⟩

end

/-- R144: a `rst` cycle establishes I1 to I9 in any state of a block that exists. -/
theorem rstEdge_invariants {s : State} (hv : s.config.Valid) : (rstEdge s).Invariants :=
  ⟨Nat.zero_le _, Nat.le_refl 0, by simp [State.I3], hv.tbitCyc_pos, hv.tresetCyc_pos, Nat.zero_le 23,
    by simp [State.I7], by simp [State.I8], by simp [State.I9]⟩

/-! ### Cycles and steps -/

/-- I1 to I9 do not mention the host's input. -/
theorem State.consumeInput_invariants (s : State) : s.consumeInput.Invariants ↔ s.Invariants := by
  unfold State.consumeInput
  split <;> exact Iff.rfl

theorem exec_invariants {i : Instr} {s t : State} (hv : s.config.Valid) (h : s.Invariants)
    (he : exec i s = .next t) : t.Invariants := by
  have hseq := seq_invariants h hv
  rcases exec_cases he with
    ⟨r, rfl⟩ | ⟨e, rfl⟩ | ⟨d, -, hp, rfl⟩ | ⟨n, -, hp, ho, hn, rfl⟩ | ⟨j, d, -, -, -, rfl⟩
  · exact hseq
  · exact raiseErr_invariants hseq e (seq_firstErr s)
  · rw [seq_idle hp]
    exact setOe_invariants h hp (oeOperand d)
  · rw [seq_idle hp]
    exact accept_invariants h hv ho hn s
  · exact hseq

/-- Every cycle with `rst = 0` keeps a running block running. -/
theorem exec_running {i : Instr} {s t : State} (h : Running s) (he : exec i s = .next t) : Running t := by
  obtain ⟨⟨hv, hfb, hinv⟩, hseen⟩ := h
  obtain ⟨-, -, hconfig, hrst⟩ := exec_keeps_input he
  have hfb' : t.FbWf := by
    rw [State.FbWf, FrameBuffer.wf_iff] at hfb ⊢
    rw [exec_fb_length he, hconfig, hfb]
  exact ⟨⟨hconfig ▸ hv, hfb', fun _ => exec_invariants hv (hinv hseen) he⟩, hrst.trans hseen⟩

theorem consumeInput_running {s : State} (h : Running s) : Running s.consumeInput := by
  obtain ⟨⟨hv, hfb, hinv⟩, hseen⟩ := h
  refine ⟨⟨by simpa using hv, by simpa [State.FbWf] using hfb, fun _ => ?_⟩, by simpa using hseen⟩
  exact (State.consumeInput_invariants s).mpr (hinv hseen)

theorem rstEdge_running {s : State} (hv : s.config.Valid) (hfb : s.FbWf) : Running (rstEdge s) :=
  ⟨⟨hv, hfb, fun _ => rstEdge_invariants hv⟩, rfl⟩

/-- Every step of a block that exists ends in a running block, the first `rst` cycle included. -/
theorem step_running {s t : State} (h : s.Inv) (hs : step s = .next t) : Running t := by
  obtain ⟨hv, ⟨-, rfl⟩ | ⟨-, hseen, -, he⟩⟩ := step_cases hs
  · exact rstEdge_running (by simpa using hv) (by simpa [State.FbWf] using h.2.1)
  · exact exec_running (consumeInput_running ⟨h, hseen⟩) he

/-- Settles O12, from one lemma for each update of the state. -/
theorem everyCycleKeepsInvariants : Obligations.EveryCycleKeepsInvariants :=
  ⟨fun _ _ t h he => ⟨exec_running h he, t.phase.code_ne_three⟩,
    fun _ t h hs => ⟨step_running h hs, t.phase.code_ne_three⟩⟩

end Sys2Proof.Machine

/-! PROOFS. Where the position registers rest outside the slots (10_state.md rule R30, 42_register_access.md rule R115). -/

namespace Sys2Proof.Machine

open Sys2Proof.Safety

/-- The position at rest: `rcnt` outside RESET, `cyc`, `led` and `bit` outside BITS, and the same three in the empty BITS
cycle. -/
def State.AtRest (s : State) : Prop :=
  (s.phase ≠ .reset → s.rcnt = 0#24) ∧
  (s.phase ≠ .bits → s.cyc = 0#8 ∧ s.led = s.cnt ∧ (0 < s.cnt.toNat → s.bit = 0#5)) ∧
  (s.phase = .bits → s.cnt.toNat = 0 → s.cyc = 0#8 ∧ s.led = 0#11 ∧ s.bit = 23#5)

/-- In a slot only `rcnt` is at rest. -/
theorem State.atRest_of_slot {s : State} (hp : s.phase = .bits) (hn : 0 < s.cnt.toNat) (hr : s.rcnt = 0#24) :
    s.AtRest :=
  ⟨fun _ => hr, fun h => absurd hp h, fun _ h0 => absurd h0 hn.ne'⟩

/-- The empty BITS cycle leaves the position it found. -/
theorem endEmptyBits_atRest {s : State} (h : s.AtRest) (hp : s.phase = .bits) (hn : s.cnt.toNat = 0) :
    (endEmptyBits s).AtRest := by
  obtain ⟨-, -, hempty⟩ := h
  obtain ⟨hcyc, hled, -⟩ := hempty hp hn
  have hcnt : s.cnt = 0#11 := BitVec.eq_of_toNat_eq hn
  exact ⟨by simp, fun _ => ⟨hcyc, hled.trans hcnt.symm, fun hpos => absurd hn hpos.ne'⟩, by simp⟩

/-- The last slot of the last LED leaves `led` at the count, by I3. -/
theorem endLastSlot_atRest {s : State} (hi : s.Invariants) (hp : s.phase = .bits) (hn : 0 < s.cnt.toNat)
    (hb : s.bit.toNat = 0) (hl : s.cnt.toNat ≤ s.led.toNat + 1) : (endLastSlot s).AtRest := by
  obtain ⟨-, -, h3, -⟩ := hi
  have hlt := h3 hp hn
  have hled : (endLastSlot s).led = s.cnt := by
    rw [endLastSlot_led, show s.led.toNat + 1 = s.cnt.toNat by omega, BitVec.ofNat_toNat, BitVec.setWidth_eq]
  exact ⟨by simp, fun _ => ⟨rfl, hled, fun _ => BitVec.eq_of_toNat_eq hb⟩, by simp⟩

/-- The reset pulse moves `rcnt` alone. -/
theorem seqReset_atRest {s : State} (h : s.AtRest) (hp : s.phase = .reset) : (seqReset s).AtRest := by
  obtain ⟨-, hrest, -⟩ := h
  have hpos := hrest (by simp [hp])
  rcases seqReset_cases s with ⟨-, hs⟩ | ⟨-, hs⟩ <;> rw [hs]
  · exact ⟨by simp [hp], fun _ => hpos, by simp [hp]⟩
  · exact ⟨by simp, fun _ => hpos, by simp⟩

theorem seq_atRest {s : State} (hi : s.Invariants) (h : s.AtRest) : (seq s).AtRest := by
  cases hp : s.phase with
  | idle => rwa [seq_idle hp]
  | bits =>
    have hr : s.rcnt = 0#24 := h.1 (by simp [hp])
    rw [seq_bits hp]
    rcases seqBits_cases s with
      ⟨hn, hs⟩ | ⟨hn, -, hs⟩ | ⟨hn, -, -, hs⟩ | ⟨hn, -, -, -, hs⟩ | ⟨hn, -, hb, hl, hs⟩ <;> rw [hs]
    · exact endEmptyBits_atRest h hp hn
    · exact State.atRest_of_slot hp hn hr
    · exact State.atRest_of_slot hp hn hr
    · exact State.atRest_of_slot hp hn hr
    · exact endLastSlot_atRest hi hp hn hb hl
  | reset =>
    rw [seq_reset hp]
    exact seqReset_atRest h hp

/-- An accepted TRANSMIT starts at the position of the empty BITS cycle, whatever its count. -/
theorem accept_atRest (n : Nat) (s s1 : State) : (accept n s s1).AtRest :=
  ⟨fun _ => rfl, fun hn => absurd rfl hn, fun _ _ => ⟨rfl, rfl, rfl⟩⟩

theorem rstEdge_atRest (s : State) : (rstEdge s).AtRest :=
  ⟨fun _ => rfl, fun _ => ⟨rfl, rfl, fun _ => rfl⟩, by simp⟩

theorem State.consumeInput_atRest (s : State) : s.consumeInput.AtRest ↔ s.AtRest := by
  simp [State.AtRest]

theorem exec_atRest {i : Instr} {s t : State} (hi : s.Invariants) (h : s.AtRest) (he : exec i s = .next t) :
    t.AtRest := by
  have hseq := seq_atRest hi h
  rcases exec_cases he with ⟨r, rfl⟩ | ⟨e, rfl⟩ | ⟨d, -, -, rfl⟩ | ⟨n, -, -, -, -, rfl⟩ | ⟨j, d, -, -, -, rfl⟩
  · exact hseq
  · exact hseq
  · exact hseq
  · exact accept_atRest (countOperand n) s (seq s)
  · exact hseq

theorem step_atRest {s t : State} (h : s.AtRest) (hs : step s = .next t) : t.AtRest := by
  obtain ⟨-, ⟨-, rfl⟩ | ⟨-, -, hi, he⟩⟩ := step_cases hs
  · exact rstEdge_atRest s.consumeInput
  · exact exec_atRest ((State.consumeInput_invariants s).mpr hi) ((State.consumeInput_atRest s).mpr h) he

/-- Settles O15: `AtRest` is inductive, with I3 for the end of the last slot. -/
theorem restPositionIsKept : Obligations.RestPositionIsKept := fun _ _ _ hs h => step_atRest h hs

end Sys2Proof.Machine

/-! PROOFS. What RD_FB and an accepted WR_FB do inside the buffer (20_memory.md rules R52, R54, 42_register_access.md
rules R125, R126). -/

namespace Sys2Proof.Machine

/-- R52, R62: a stored word reads back as the word written with its top byte cleared. -/
theorem colorWord_colorOperand (d : Word) : colorWord (colorOperand d) = d &&& 0x00FFFFFF#32 := by
  apply BitVec.eq_of_toNat_eq
  calc (colorWord (colorOperand d)).toNat
      = d.toNat % 2 ^ 24 := by
        rw [colorWord, BitVec.toNat_setWidth_of_le (by decide), colorOperand, BitVec.extractLsb'_toNat,
          Nat.shiftRight_zero]
    _ = d.toNat &&& 0x00FFFFFF := (Nat.and_two_pow_sub_one_eq_mod d.toNat 24).symm
    _ = (d &&& 0x00FFFFFF#32).toNat := (BitVec.toNat_and d 0x00FFFFFF#32).symm

/-- R125, inside the buffer. -/
theorem exec_rdFb_mapped {s : State} {index : BitVec 10} (hi : indexOperand index < s.config.nLeds) (d : Word) :
    exec (.rdFb index d) s = quietCycle s (colorWord (FrameBuffer.read s.fb (indexOperand index))) := by
  simp [exec, execRdFb, indexMapped, hi]

/-- R126, inside the buffer while IDLE. -/
theorem exec_wrFb_accepted {s : State} {index : BitVec 10} (hp : s.phase = .idle)
    (hi : indexOperand index < s.config.nLeds) (d : Word) :
    exec (.wrFb index d) s =
      endCycle s 0#32 { s with fb := FrameBuffer.write s.fb (indexOperand index) (colorOperand d) } := by
  simp [exec, execWrFb, indexMapped, hi, hp, seq_idle hp]

/-- After an accepted WR_FB the buffer holds the word written. -/
theorem exec_wrFb_accepted_read {s t : State} {index : BitVec 10} {d : Word} (hfb : s.FbWf) (hp : s.phase = .idle)
    (hi : indexOperand index < s.config.nLeds) (hw : exec (.wrFb index d) s = .next t) :
    FrameBuffer.read t.fb (indexOperand index) = colorOperand d := by
  have hlt : indexOperand index < s.fb.length := hi.trans_eq ((FrameBuffer.wf_iff _ _).mp hfb).symm
  rw [exec_wrFb_accepted hp hi, endCycle_next] at hw
  rw [hw]
  exact FrameBuffer.read_write_same hlt _

/-- Settles O35: RD_FB reads what the buffer holds, which after the accepted WR_FB is the word written. -/
theorem writtenWordIsReadNextCycle : Obligations.WrittenWordIsReadNextCycle := by
  intro s t index d d' hfb hp hi hw
  obtain ⟨-, -, hconfig, -⟩ := exec_keeps_input hw
  have hit : indexOperand index < t.config.nLeds := by rwa [hconfig]
  have hread : exec (.rdFb index d') t = quietCycle t (d &&& 0x00FFFFFF#32) := by
    rw [exec_rdFb_mapped hit, exec_wrFb_accepted_read hfb hp hi hw, colorWord_colorOperand]
  exact ⟨_, hread.trans (quietCycle_eq t _), rfl⟩

end Sys2Proof.Machine

/-! PROOFS. Which row of the opcode table a word matches first, read off its fields (30_encoding.md rules R60, R61, R63,
R64). -/

namespace Sys2Proof

@[simp] theorem Access.isWrite_read : Access.read.isWrite = false := rfl
@[simp] theorem Access.isWrite_write : Access.write.isWrite = true := rfl
@[simp] theorem Access.ofBit_false : Access.ofBit false = .read := rfl
@[simp] theorem Access.ofBit_true : Access.ofBit true = .write := rfl

/-! ### Masking a word masks its fields -/

theorem transaction_eq_iff (w p : Transaction) :
    w = p ↔ fieldV w = fieldV p ∧ fieldW w = fieldW p ∧ fieldA w = fieldA p ∧ fieldD w = fieldD p := by
  refine ⟨fun h => by simp [h], fun ⟨hv, hw, ha, hd⟩ => ?_⟩
  rw [← packT_fields w, hv, hw, ha, hd, packT_fields]

theorem packT_and (v : Bool) (acc : Access) (a : Addr) (d : Word) (m : Transaction) :
    packT v acc a d &&& m =
      packT (v && fieldV m) (Access.ofBit (acc.isWrite && (fieldW m).isWrite)) (a &&& fieldA m) (d &&& fieldD m) := by
  apply BitVec.eq_of_getLsbD_eq
  intro k _
  conv_lhs => rw [← packT_fields m]
  simp only [BitVec.getLsbD_and, packT_getLsbD, Access.isWrite_ofBit]
  split_ifs <;> rfl

/-- R63's `T & mask = match`, field by field. -/
theorem packT_matches_iff (v : Bool) (acc : Access) (a : Addr) (d : Word) (m p : Transaction) :
    packT v acc a d &&& m = p ↔
      (v && fieldV m) = fieldV p ∧ Access.ofBit (acc.isWrite && (fieldW m).isWrite) = fieldW p ∧
        a &&& fieldA m = fieldA p ∧ d &&& fieldD m = fieldD p := by
  rw [packT_and, transaction_eq_iff, fieldV_packT, fieldW_packT, fieldA_packT, fieldD_packT]

/-! ### What the table's masks say of A and D -/

theorem addr_and_eq_iff (a m p : Addr) : a &&& m = p ↔ ∀ i < 13, (a.getLsbD i && m.getLsbD i) = p.getLsbD i := by
  simp only [BitVec.eq_of_getLsbD_eq_iff, BitVec.getLsbD_and]

@[simp] theorem addr_and_odd_iff (a : Addr) : a &&& 0x0001#13 = 0x0001#13 ↔ a.getLsbD 0 = true := by
  simp only [addr_and_eq_iff, Nat.forall_lt_succ_right]
  simp

@[simp] theorem addr_and_half_iff (a : Addr) :
    a &&& 0x0003#13 = 0x0002#13 ↔ a.getLsbD 0 = false ∧ a.getLsbD 1 = true := by
  simp only [addr_and_eq_iff, Nat.forall_lt_succ_right]
  simp

@[simp] theorem addr_and_fbWindow_iff (a : Addr) :
    a &&& 0x1003#13 = 0x1000#13 ↔ a.getLsbD 0 = false ∧ a.getLsbD 1 = false ∧ a.getLsbD 12 = true := by
  simp only [addr_and_eq_iff, Nat.forall_lt_succ_right]
  simp [and_assoc]

@[simp] theorem addr_and_full (a : Addr) : a &&& 0x1FFF#13 = a := BitVec.and_allOnes

@[simp] theorem word_and_full (d : Word) : d &&& 0xFFFFFFFF#32 = d := BitVec.and_allOnes

@[simp] theorem word_and_opcode_iff (d : Word) : d &&& 0x0000FFFF#32 = 0x00000001#32 ↔ d.extractLsb' 0 16 = 1#16 := by
  have hmask : d.toNat &&& 0xFFFF = d.toNat % 2 ^ 16 := Nat.and_two_pow_sub_one_eq_mod d.toNat 16
  simp [← BitVec.toNat_inj, hmask]

/-! ### The table's rows one by one, and in the decoder's grouping -/

/-- R63: a row that does not match leaves the word to the rows after it. -/
theorem find_row_cons (w : Transaction) (r : OpcodeRow) (rs : List OpcodeRow) :
    ((r :: rs).find? (fun r => w &&& r.mask == r.pattern)).map OpcodeRow.row =
      if w &&& r.mask = r.pattern then some r.row
      else (rs.find? (fun r => w &&& r.mask == r.pattern)).map OpcodeRow.row := by
  by_cases h : w &&& r.mask = r.pattern <;> simp [h]

section
variable {α : Type} (P Q R : Prop) [Decidable P] [Decidable Q] [Decidable R] (x y z : α)

/-- R64 pairs them: a read row and the write row of the same address are one case split by direction. -/
theorem ite_read_write (acc : Access) :
    (if acc = .read ∧ P then x else if acc = .write ∧ P then y else z) =
      if P then (if acc = .read then x else y) else z := by
  cases acc <;> simp

/-- A row that narrows the next one is a case inside it. -/
theorem ite_narrower :
    (if P ∧ Q ∧ R then x else if P ∧ Q then y else z) = if P ∧ Q then (if R then x else y) else z := by
  by_cases hP : P <;> by_cases hQ : Q <;> simp [hP, hQ]

end

theorem byAccess_row (acc : Access) (rd wr : Instr) :
    (byAccess acc rd wr).row = if acc = .read then rd.row else wr.row := by
  cases acc <;> rfl

/-- R64's table as cases over the fields: the first match of a word put together from them. -/
theorem firstRow_packT (v : Bool) (acc : Access) (a : Addr) (d : Word) :
    firstRow (packT v acc a d) =
      if v = false then some 1
      else if a.getLsbD 0 then some 2
      else if a.getLsbD 1 then some 3
      else if a = 0x0000#13 then if acc = .read then some 4 else some 5
      else if a = 0x0004#13 then
        if acc = .read then some 6
        else if d = 0#32 then some 7
        else if d.extractLsb' 0 16 = 1#16 then some 8
        else some 9
      else if a = 0x0008#13 then if acc = .read then some 10 else some 11
      else if a = 0x000C#13 then if acc = .read then some 12 else some 13
      else if a = 0x0010#13 then if acc = .read then some 14 else some 15
      else if a = 0x0014#13 then if acc = .read then some 16 else some 17
      else if a = 0x0018#13 then if acc = .read then some 18 else some 19
      else if a = 0x001C#13 then if acc = .read then some 20 else some 21
      else if a = 0x0020#13 then if acc = .read then some 22 else some 23
      else if a.getLsbD 12 then if acc = .read then some 24 else some 25
      else some 26 := by
  simp only [firstRow, opcodeRows, List.cons_append, List.nil_append, find_row_cons, packT_matches_iff]
  cases v with
  | false => simp [fieldV, fieldW, fieldA, fieldD]
  | true =>
    cases hodd : a.getLsbD 0 with
    | true => simp [fieldV, fieldW, fieldA, fieldD, hodd, -BitVec.getLsbD_eq_getElem]
    | false =>
      cases hhalf : a.getLsbD 1 with
      | true => simp [fieldV, fieldW, fieldA, fieldD, hodd, hhalf, -BitVec.getLsbD_eq_getElem]
      | false =>
        simp [fieldV, fieldW, fieldA, fieldD, hodd, hhalf, ite_read_write, ite_narrower, -BitVec.getLsbD_eq_getElem]

/-- `decodeFields` makes the same cases, so only the rows of its leaves are to be read off. -/
theorem firstRow_packT_eq_decodeFields_row (v : Bool) (acc : Access) (a : Addr) (d : Word) :
    firstRow (packT v acc a d) = some (decodeFields v acc a d).row := by
  simp only [firstRow_packT, decodeFields, decodeCommand, byAccess_row, apply_ite Instr.row, apply_ite some]
  rfl

/-- Settles O4: both sides depend only on the fields of the word, and make the same cases over them. -/
theorem decodeTakesFirstMatchingRow : Obligations.DecodeTakesFirstMatchingRow := by
  intro w
  rw [← packT_fields w, decodeWord_packT, firstRow_packT_eq_decodeFields_row]

/-- Settles O1, by evaluating the decoder on the twelve words. -/
theorem workedWordsDecode : Obligations.WorkedWordsDecode := by
  unfold Obligations.WorkedWordsDecode
  decide

end Sys2Proof

/-! PROOFS. The commands written to CMD (40_commands.md rules R74 to R80), and the transactions that write nothing. -/

namespace Sys2Proof.Machine

/-- A cycle that raises an error, spelled with what R129 writes. -/
theorem errorCycle_eq (e : ErrCode) (s : State) :
    errorCycle e s = .next { seq s with
      err := s.err ||| e.mask
      firstErr := if s.firstErr = 0#3 then e.code else s.firstErr
      out := { outputs s false 0#32 with busRdata := 0#32 } } := by
  simp [errorCycle, endCycle, raiseErr, outputs]

/-! ### The cases of a TRANSMIT, in R75's order -/

theorem exec_transmit_busy {s : State} (hp : s.phase ≠ .idle) (count : BitVec 16) :
    exec (.transmit count) s = errorCycle .busy s := by
  simp [exec, execTransmit, hp]

theorem exec_transmit_undriven {s : State} (hp : s.phase = .idle) (ho : s.oe = false) (count : BitVec 16) :
    exec (.transmit count) s = errorCycle .pin s := by
  simp [exec, execTransmit, hp, ho]

theorem exec_transmit_tooMany {s : State} {count : BitVec 16} (hp : s.phase = .idle) (ho : s.oe = true)
    (hn : s.config.nLeds < count.toNat) : exec (.transmit count) s = errorCycle .count s := by
  simp [exec, execTransmit, countOperand, hp, ho, hn]

theorem exec_transmit_accepted {s : State} {count : BitVec 16} (hp : s.phase = .idle) (ho : s.oe = true)
    (hn : count.toNat ≤ s.config.nLeds) :
    exec (.transmit count) s = endCycle s 0#32 (accept count.toNat s s) := by
  simp [exec, execTransmit, countOperand, hp, ho, Nat.not_lt.mpr hn, seq_idle hp]

/-- An LED count fits in the register `cnt`: a strip has at most 1024 LEDs. -/
theorem count_fits_cnt {c : Config} (hv : c.Valid) {n : Nat} (hn : n ≤ c.nLeds) : (BitVec.ofNat 11 n).toNat = n := by
  have hl := hv.nLeds_le
  rw [BitVec.toNat_ofNat]
  omega

/-- Settles O19: each of the three is a cycle that writes nothing, with read data 0. -/
theorem quietTransactionsComplete : Obligations.QuietTransactionsComplete := by
  intro s acc a d i hi
  simp only [List.mem_cons, List.not_mem_nil, or_false] at hi
  obtain rfl | rfl | rfl := hi <;> exact quietCycle_eq s 0#32

/-- Settles O25: the command is an error cycle with ERR_CMD, whatever the phase. -/
theorem reservedCommandRaisesCmdError : Obligations.ReservedCommandRaisesCmdError :=
  fun s _ => errorCycle_eq .cmd s

/-- Settles O32: what `accept` writes, with a count that `cnt` holds. -/
theorem transmitIsAccepted : Obligations.TransmitIsAccepted := fun _ count hv hp ho hn =>
  ⟨BitVec.ofNat 11 count.toNat, count_fits_cnt hv hn, exec_transmit_accepted hp ho hn⟩

/-- Settles O33: each refused TRANSMIT is an error cycle, and while IDLE the sequencer holds. -/
theorem transmitIsRefused : Obligations.TransmitIsRefused := by
  intro s count
  refine ⟨fun hp => ?_, fun hp ho => ?_, fun hp ho hn => ?_⟩
  · exact (exec_transmit_busy hp count).trans (errorCycle_eq .busy s)
  · rw [exec_transmit_undriven hp ho, errorCycle_eq, seq_idle hp]
    rfl
  · rw [exec_transmit_tooMany hp ho hn, errorCycle_eq, seq_idle hp]
    rfl

end Sys2Proof.Machine

/-! PROOFS. How many BUSY cycles are left (41_bit_sequencer.md rules R84 to R88, R94): every edge takes one away, whatever
the host presents. -/

namespace Sys2Proof.Machine

/-- The BUSY cycles from this one to the end of the reset pulse, read off the position registers. -/
def State.busyLeft (s : State) : Nat :=
  match s.phase with
  | .idle => 0
  | .bits =>
    (if s.cnt.toNat = 0 then 1
      else (24 * (s.cnt.toNat - s.led.toNat - 1) + s.bit.toNat) * s.config.tbitCyc + (s.config.tbitCyc - s.cyc.toNat)) +
      s.config.tresetCyc
  | .reset => s.config.tresetCyc - s.rcnt.toNat

theorem State.busyLeft_idle {s : State} (hp : s.phase = .idle) : s.busyLeft = 0 := by simp [busyLeft, hp]

theorem State.busyLeft_emptyBits {s : State} (hp : s.phase = .bits) (hn : s.cnt.toNat = 0) :
    s.busyLeft = 1 + s.config.tresetCyc := by simp [busyLeft, hp, hn]

theorem State.busyLeft_slot {s : State} (hp : s.phase = .bits) (hn : 0 < s.cnt.toNat) :
    s.busyLeft = (24 * (s.cnt.toNat - s.led.toNat - 1) + s.bit.toNat) * s.config.tbitCyc +
      (s.config.tbitCyc - s.cyc.toNat) + s.config.tresetCyc := by simp [busyLeft, hp, hn.ne']

theorem State.busyLeft_reset {s : State} (hp : s.phase = .reset) : s.busyLeft = s.config.tresetCyc - s.rcnt.toNat := by
  simp [busyLeft, hp]

/-- R94: an accepted TRANSMIT of `n` has `BUSYCYC(n)` of them ahead. -/
theorem accept_busyLeft {s s1 : State} {n : Nat} (hv : s1.config.Valid) (hn : n ≤ s1.config.nLeds) :
    (accept n s s1).busyLeft = s1.config.busyCycles n := by
  have hcnt : (accept n s s1).cnt.toNat = n := count_fits_cnt hv hn
  unfold Config.busyCycles
  split
  case isTrue h0 => rw [State.busyLeft_emptyBits rfl (hcnt.trans h0), accept_config]
  case isFalse h0 =>
    rw [State.busyLeft_slot rfl (by omega), hcnt, accept_config]
    obtain ⟨m, rfl⟩ := Nat.exists_eq_add_one_of_ne_zero h0
    simp only [accept_led, accept_bit, accept_cyc, BitVec.toNat_ofNat, Nat.zero_mod, Nat.sub_zero, Nat.add_sub_cancel,
      Nat.reducePow, Nat.reduceMod]
    ring

/-! ### What each of the sequencer's updates takes away, under the guards of R85 to R88 -/

section
variable {s : State}

theorem endEmptyBits_busyLeft (hp : s.phase = .bits) (hn : s.cnt.toNat = 0) :
    (endEmptyBits s).busyLeft + 1 = s.busyLeft := by
  rw [State.busyLeft_reset rfl, State.busyLeft_emptyBits hp hn, endEmptyBits_config, endEmptyBits_rcnt,
    BitVec.toNat_ofNat]
  omega

theorem nextCycle_busyLeft (hv : s.config.Valid) (hp : s.phase = .bits) (hn : 0 < s.cnt.toNat)
    (hc : s.cyc.toNat < s.config.tbitCyc - 1) : (nextCycle s).busyLeft + 1 = s.busyLeft := by
  have htb := hv.tbitCyc_le
  have hcyc : (nextCycle s).cyc.toNat = s.cyc.toNat + 1 := by
    rw [nextCycle_cyc, BitVec.toNat_ofNat]
    omega
  rw [State.busyLeft_slot hp hn, State.busyLeft_slot (s := nextCycle s) hp hn, hcyc]
  simp only [nextCycle_cnt, nextCycle_led, nextCycle_bit, nextCycle_config]
  omega

/-- In the last cycle of a slot one cycle of it is left (I4). -/
theorem slot_last_cycle (h : s.Invariants) (hc : s.config.tbitCyc - 1 ≤ s.cyc.toNat) :
    s.config.tbitCyc - s.cyc.toNat = 1 := by
  obtain ⟨-, -, -, h4, -⟩ := h
  omega

theorem nextBit_busyLeft (h : s.Invariants) (hp : s.phase = .bits) (hn : 0 < s.cnt.toNat)
    (hc : s.config.tbitCyc - 1 ≤ s.cyc.toNat) (hb : 0 < s.bit.toNat) : (nextBit s).busyLeft + 1 = s.busyLeft := by
  obtain ⟨m, hm⟩ := Nat.exists_eq_add_one.mpr hb
  have hbit : (nextBit s).bit.toNat = m := by
    rw [nextBit_bit, BitVec.toNat_ofNat]
    omega
  rw [State.busyLeft_slot hp hn, State.busyLeft_slot (s := nextBit s) hp hn, hbit, hm, slot_last_cycle h hc]
  simp only [nextBit_cnt, nextBit_led, nextBit_cyc, nextBit_config, BitVec.toNat_ofNat, Nat.zero_mod, Nat.sub_zero]
  ring

theorem nextLed_busyLeft (hv : s.config.Valid) (h : s.Invariants) (hp : s.phase = .bits) (hn : 0 < s.cnt.toNat)
    (hc : s.config.tbitCyc - 1 ≤ s.cyc.toNat) (hb : s.bit.toNat = 0) (hl : s.led.toNat + 1 < s.cnt.toNat) :
    (nextLed s).busyLeft + 1 = s.busyLeft := by
  have hled : (nextLed s).led.toNat = s.led.toNat + 1 := led_succ_toNat h hv (by omega)
  obtain ⟨m, hm⟩ : ∃ m, s.cnt.toNat - s.led.toNat - 1 = m + 1 := ⟨s.cnt.toNat - s.led.toNat - 2, by omega⟩
  have hm' : s.cnt.toNat - (s.led.toNat + 1) - 1 = m := by omega
  rw [State.busyLeft_slot hp hn, State.busyLeft_slot (s := nextLed s) hp hn, hled, hb, slot_last_cycle h hc,
    nextLed_cnt, hm, hm', nextLed_bit, nextLed_cyc, nextLed_config]
  simp only [BitVec.toNat_ofNat, Nat.zero_mod, Nat.sub_zero, Nat.reducePow, Nat.reduceMod]
  ring

/-- After the last slot only the reset pulse is left. -/
theorem endLastSlot_busyLeft (h : s.Invariants) (hp : s.phase = .bits) (hn : 0 < s.cnt.toNat)
    (hc : s.config.tbitCyc - 1 ≤ s.cyc.toNat) (hb : s.bit.toNat = 0) (hl : s.cnt.toNat ≤ s.led.toNat + 1) :
    (endLastSlot s).busyLeft + 1 = s.busyLeft := by
  rw [State.busyLeft_slot hp hn, State.busyLeft_reset rfl, hb, slot_last_cycle h hc,
    show s.cnt.toNat - s.led.toNat - 1 = 0 by omega, endLastSlot_config, endLastSlot_rcnt]
  simp only [BitVec.toNat_ofNat, Nat.zero_mod, Nat.sub_zero, Nat.mul_zero, Nat.zero_mul, Nat.zero_add]
  exact Nat.add_comm _ _

/-- An edge of BITS takes one cycle away, in each case of R85 to R87. -/
theorem seqBits_busyLeft (hv : s.config.Valid) (h : s.Invariants) (hp : s.phase = .bits) :
    (seqBits s).busyLeft + 1 = s.busyLeft := by
  rcases seqBits_cases s with
    ⟨hn, hs⟩ | ⟨hn, hc, hs⟩ | ⟨hn, hc, hb, hs⟩ | ⟨hn, hc, hb, hl, hs⟩ | ⟨hn, hc, hb, hl, hs⟩ <;> rw [hs]
  · exact endEmptyBits_busyLeft hp hn
  · exact nextCycle_busyLeft hv hp hn hc
  · exact nextBit_busyLeft h hp hn hc hb
  · exact nextLed_busyLeft hv h hp hn hc hb hl
  · exact endLastSlot_busyLeft h hp hn hc hb hl

/-- An edge of the reset pulse takes one cycle away (R88). -/
theorem seqReset_busyLeft (hv : s.config.Valid) (h : s.Invariants) (hp : s.phase = .reset) :
    (seqReset s).busyLeft + 1 = s.busyLeft := by
  obtain ⟨-, -, -, -, h5, -⟩ := h
  have htr := hv.tresetCyc_lt
  rcases seqReset_cases s with ⟨hc, hs⟩ | ⟨hc, hs⟩ <;> rw [hs, State.busyLeft_reset hp]
  · rw [State.busyLeft_reset (s := nextResetCycle s) hp, nextResetCycle_rcnt, nextResetCycle_config, BitVec.toNat_ofNat]
    omega
  · rw [State.busyLeft_idle (s := endReset s) rfl]
    omega

/-- Every edge of a BUSY block takes one cycle away. -/
theorem seq_busyLeft (hv : s.config.Valid) (h : s.Invariants) (hp : s.phase ≠ .idle) :
    (seq s).busyLeft + 1 = s.busyLeft := by
  cases hph : s.phase with
  | idle => exact absurd hph hp
  | bits => rw [seq_bits hph, seqBits_busyLeft hv h hph]
  | reset => rw [seq_reset hph, seqReset_busyLeft hv h hph]

/-- R88: the sequencer enters IDLE only at the end of a reset pulse, and sets DONE there. -/
theorem seq_enters_idle_done (hp : s.phase ≠ .idle) (hi : (seq s).phase = .idle) : (seq s).done = true := by
  cases hph : s.phase with
  | idle => exact absurd hph hp
  | bits =>
    rw [seq_bits hph] at hi
    rcases seqBits_cases s with ⟨-, hs⟩ | ⟨-, -, hs⟩ | ⟨-, -, -, hs⟩ | ⟨-, -, -, -, hs⟩ | ⟨-, -, -, -, hs⟩ <;>
      simp [hs, hph] at hi
  | reset =>
    rw [seq_reset hph] at hi ⊢
    rcases seqReset_cases s with ⟨-, hs⟩ | ⟨-, hs⟩
    · simp [hs, hph] at hi
    · rw [hs, endReset_done]

end

end Sys2Proof.Machine

/-! PROOFS. What the lines of the source's call decode to (30_encoding.md rules R60, R62, R66, R67). -/

namespace Sys2Proof

/-- The sum of R47 and R48. -/
theorem fbAddr_toNat (index : BitVec 10) : (fbAddr index).toNat = 0x1000 + 4 * index.toNat := by
  have h : (fbAddr index).toNat = (1#1 ++ index ++ 0#2).toNat := rfl
  rw [h, BitVec.toNat_append, BitVec.toNat_append, ← Nat.shiftLeft_add_eq_or_of_lt index.isLt,
    ← Nat.shiftLeft_add_eq_or_of_lt (0#2).isLt]
  simp only [Nat.shiftLeft_eq, BitVec.toNat_ofNat]
  omega

/-- The bits of a frame-buffer address, as the binary digits of its sum. -/
theorem fbAddr_getLsbD (index : BitVec 10) (k : Nat) :
    (fbAddr index).getLsbD k = decide ((0x1000 + 4 * index.toNat) / 2 ^ k % 2 = 1) := by
  rw [BitVec.getLsbD, fbAddr_toNat, Nat.testBit_eq_decide_div_mod_eq]

/-- R47, R48: the address of a frame-buffer word is a multiple of 4 in the window from 0x1000 on. -/
theorem fbAddr_bits (index : BitVec 10) :
    (fbAddr index).getLsbD 0 = false ∧ (fbAddr index).getLsbD 1 = false ∧ (fbAddr index).getLsbD 12 = true := by
  have h := index.isLt
  simp only [fbAddr_getLsbD, decide_eq_false_iff_not, decide_eq_true_eq]
  omega

/-- R48: the index is `A[11:2]`. -/
theorem fbAddr_index (index : BitVec 10) : (fbAddr index).extractLsb' 2 10 = index := by
  apply BitVec.eq_of_toNat_eq
  have h := index.isLt
  rw [BitVec.extractLsb'_toNat, fbAddr_toNat, Nat.shiftRight_eq_div_pow]
  omega

/-- An address of the window is no register's: those are below 0x1000. -/
theorem fbAddr_ne {a : Addr} (ha : a.toNat < 0x1000) (index : BitVec 10) : fbAddr index ≠ a := by
  rintro rfl
  rw [fbAddr_toNat] at ha
  omega

/-- Rows 24 and 25 of R64. -/
theorem decodeFields_fbAddr (acc : Access) (index : BitVec 10) (d : Word) :
    decodeFields true acc (fbAddr index) d = byAccess acc (.rdFb index d) (.wrFb index d) := by
  obtain ⟨hodd, hhalf, hwindow⟩ := fbAddr_bits index
  simp [decodeFields, hodd, hhalf, hwindow, fbAddr_index, fbAddr_ne, -BitVec.getLsbD_eq_getElem]

end Sys2Proof

namespace Sys2Proof.Machine.Script

/-- `FB+4*i` is the address of word `i`, for the `i` that have one. -/
theorem fbWord_eq_fbAddr {i : Nat} (hi : i < 1024) : fbWord i = fbAddr (BitVec.ofNat 10 i) := by
  apply BitVec.eq_of_toNat_eq
  rw [fbWord, fbAddr_toNat, BitVec.toNat_ofNat, BitVec.toNat_ofNat]
  omega

/-- The word a PUTLED writes: `r` in bits 23:16, `g` in 15:8, `b` in 7:0 (R67). -/
def putledData (r g b : Byte) : Word := r.setWidth 32 <<< 16 ||| g.setWidth 32 <<< 8 ||| b.setWidth 32

/-- R8, R52: the frame word of a PUTLED is its three bytes. Bit by bit: below its own eight bits a byte's shift gives 0,
above them the byte itself does. -/
theorem colorOperand_putledData (r g b : Byte) : colorOperand (putledData r g b) = r ++ g ++ b := by
  apply BitVec.eq_of_getLsbD_eq
  intro k hk
  have h32 : k < 32 := by omega
  simp only [colorOperand, putledData, BitVec.getLsbD_extractLsb', BitVec.getLsbD_append, BitVec.getLsbD_or,
    BitVec.getLsbD_shiftLeft, BitVec.getLsbD_setWidth, Nat.zero_add, hk, h32]
  obtain hb | ⟨hb, hg⟩ | hr : k < 8 ∨ (8 ≤ k ∧ k < 16) ∨ 16 ≤ k := by omega
  · have h16 : k < 16 := by omega
    simp [hb, h16]
  · have h8 : k - 8 < 8 := by omega
    have h8' : k - 8 < 32 := by omega
    simp [hb, hg, h8, h8', Nat.not_lt.mpr hb]
  · have h8 : 8 ≤ k := by omega
    have hg : 8 ≤ k - 8 := by omega
    have h16 : k - 16 < 32 := by omega
    have hsub : k - 8 - 8 = k - 16 := by omega
    simp [h16, hsub, Nat.not_lt.mpr h8, Nat.not_lt.mpr hg, Nat.not_lt.mpr hr, BitVec.getLsbD_of_ge b k h8,
      BitVec.getLsbD_of_ge g _ hg]

theorem decodeWord_putled {i : Nat} (hi : i < 1024) (r g b : Byte) :
    decodeWord (putled i r g b).word = .wrFb (BitVec.ofNat 10 i) (putledData r g b) := by
  rw [putled, wr, decodeWord_packT, fbWord_eq_fbAddr hi, decodeFields_fbAddr]
  rfl

theorem decodeWord_pincfg (b : Bool) : decodeWord (pincfg b).word = .wrCtrl ((BitVec.ofBool b).setWidth 32) := by
  cases b <;> decide

/-- R62: the OE that a PINCFG sets. -/
theorem oeOperand_pincfg (b : Bool) : oeOperand ((BitVec.ofBool b).setWidth 32) = b := by
  cases b <;> decide

/-- R61: a TRANSMIT's command word is its count over the code 1. -/
theorem transmit_data {n : Nat} (hn : n < 2 ^ 16) :
    (BitVec.ofNat 32 n <<< 16 ||| 0x0001#32).toNat = n * 2 ^ 16 + 1 := by
  have h : (BitVec.ofNat 32 n <<< 16).toNat = n <<< 16 := by
    rw [BitVec.toNat_shiftLeft, BitVec.toNat_ofNat, Nat.shiftLeft_eq, Nat.shiftLeft_eq]
    omega
  rw [BitVec.toNat_or, h, ← Nat.shiftLeft_eq]
  exact (Nat.shiftLeft_add_eq_or_of_lt (by decide) n).symm

theorem decodeWord_transmit {n : Nat} (hn : n < 2 ^ 16) :
    decodeWord (transmit n).word = .transmit (BitVec.ofNat 16 n) := by
  have hd := transmit_data hn
  generalize hw : BitVec.ofNat 32 n <<< 16 ||| 0x0001#32 = d at hd
  have hnop : d ≠ 0#32 := by
    rintro rfl
    simp at hd
  have hcode : d.extractLsb' 0 16 = 1#16 := by
    apply BitVec.eq_of_toNat_eq
    rw [BitVec.extractLsb'_toNat, hd, Nat.shiftRight_zero, BitVec.toNat_ofNat]
    omega
  have hcount : d.extractLsb' 16 16 = BitVec.ofNat 16 n := by
    apply BitVec.eq_of_toNat_eq
    rw [BitVec.extractLsb'_toNat, hd, Nat.shiftRight_eq_div_pow, BitVec.toNat_ofNat]
    omega
  rw [transmit, wr, decodeWord_packT, hw]
  simp [decodeFields, cmd, byAccess, decodeCommand, hnop, hcode, hcount]

theorem decodeWord_rdStatus : decodeWord (rd status).word = .rdStatus 0#32 := by decide

end Sys2Proof.Machine.Script

/-! PROOFS. The block does not read the host's script: lines presented one by one (log entry 16) do what the same lines do
at the head of a script (log entry 3). -/

namespace Sys2Proof.Machine

open Sys2Proof.Safety Sys2Proof.Machine.Script

/-- The state with another script behind it. -/
def State.withScript (s : State) (l : List BusCycle) : State := { s with script := l }

section
variable (s : State) (l : List BusCycle)

@[simp] theorem State.withScript_self : s.withScript s.script = s := rfl

theorem seqBits_withScript : seqBits (s.withScript l) = (seqBits s).withScript l := by
  simp only [seqBits, apply_ite (State.withScript · l)]
  rfl

theorem seqReset_withScript : seqReset (s.withScript l) = (seqReset s).withScript l := by
  simp only [seqReset, apply_ite (State.withScript · l)]
  rfl

theorem seq_withScript : seq (s.withScript l) = (seq s).withScript l := by
  cases hp : s.phase with
  | idle => rw [seq_idle hp, seq_idle (s := s.withScript l) hp]
  | bits => rw [seq_bits hp, seq_bits (s := s.withScript l) hp, seqBits_withScript]
  | reset => rw [seq_reset hp, seq_reset (s := s.withScript l) hp, seqReset_withScript]

end

section
variable {s t : State} (l : List BusCycle)

theorem endCycle_withScript {r : Word} {s1 : State} (h : endCycle s r s1 = .next t) :
    endCycle (s.withScript l) r (s1.withScript l) = .next (t.withScript l) := by
  rw [endCycle_next] at h ⊢
  rw [h]
  rfl

theorem quietCycle_withScript {r : Word} (h : quietCycle s r = .next t) :
    quietCycle (s.withScript l) r = .next (t.withScript l) := by
  rw [quietCycle, seq_withScript]
  exact endCycle_withScript l h

theorem errorCycle_withScript {e : ErrCode} (h : errorCycle e s = .next t) :
    errorCycle e (s.withScript l) = .next (t.withScript l) := by
  rw [errorCycle, seq_withScript]
  exact endCycle_withScript l h

/-- A cycle with `rst = 0` does the same whatever script lies behind it. -/
theorem exec_withScript {i : Instr} (h : exec i s = .next t) : exec i (s.withScript l) = .next (t.withScript l) := by
  cases i with
  | wrCtrl d =>
    simp only [exec, execWrCtrl] at h
    split at h <;> rename_i hp
    · exact (if_pos hp).trans (errorCycle_withScript l h)
    · refine (if_neg hp).trans ?_
      rw [seq_withScript]
      exact endCycle_withScript l h
  | transmit count =>
    simp only [exec, execTransmit] at h
    split at h <;> rename_i hp
    · exact (if_pos hp).trans (errorCycle_withScript l h)
    · split at h <;> rename_i ho
      · exact (if_neg hp).trans ((if_pos ho).trans (errorCycle_withScript l h))
      · split at h <;> rename_i hn
        · exact (if_neg hp).trans ((if_neg ho).trans ((if_pos hn).trans (errorCycle_withScript l h)))
        · refine (if_neg hp).trans ((if_neg ho).trans ((if_neg hn).trans ?_))
          rw [seq_withScript]
          exact endCycle_withScript l h
  | rdFb index d =>
    simp only [exec, execRdFb] at h
    split at h <;> rename_i hi
    · exact (if_pos hi).trans (errorCycle_withScript l h)
    · exact (if_neg hi).trans (quietCycle_withScript l h)
  | wrFb index d =>
    simp only [exec, execWrFb] at h
    split at h <;> rename_i hi
    · exact (if_pos hi).trans (errorCycle_withScript l h)
    · split at h <;> rename_i hp
      · exact (if_neg hi).trans ((if_pos hp).trans (errorCycle_withScript l h))
      · refine (if_neg hi).trans ((if_neg hp).trans ?_)
        rw [seq_withScript]
        exact endCycle_withScript l h
  | idle | nop | rdCtrl | rdCmd | rdStatus | rdXcount | rdPos | rdConfig | rdTiming0 | rdTiming1 | rdFclk =>
    exact quietCycle_withScript l h
  | badAlignOdd | badAlignHalf | badAddr | cmdReserved | wrStatus | wrXcount | wrPos | wrConfig | wrTiming0
      | wrTiming1 | wrFclk => exact errorCycle_withScript l h

/-- Where nothing stops it, a step runs the instruction its word decodes to. -/
theorem step_eq_exec (hv : s.config.Valid) (hrst : (s.inputAt 0).rst = false) (hseen : s.rstSeen = true)
    (hi : s.Invariants) : step s = exec (decodeWord (s.inputAt 0).word) s.consumeInput := by
  rw [step, if_neg (not_not.mpr hv), if_neg (by simp [hrst]), if_neg (by simp [hseen]), if_neg (not_not.mpr hi)]

/-- A line presented does the same whatever script lies behind it. -/
theorem step_present_withScript {c : BusCycle} (h : step (present c s) = .next t) :
    step (present c (s.withScript l)) = .next (t.withScript l) := by
  obtain ⟨hv, ⟨hrst, rfl⟩ | ⟨hrst, hseen, hi, he⟩⟩ := step_cases h
  · exact (if_neg (not_not.mpr hv)).trans (if_pos hrst)
  · rw [present_inputAt_zero, present_consumeInput] at he
    rw [step_eq_exec (s := present c (s.withScript l)) hv hrst hseen hi, present_inputAt_zero, present_consumeInput]
    exact exec_withScript l he

end

/-- Lines presented one by one are a run over those lines as a script, and leave what lies behind them. -/
theorem run_of_presentAll {lines : List BusCycle} {s t : State} (h : presentAll lines s = some t)
    (more : List BusCycle) :
    run lines.length (s.withScript (lines ++ more)) = .next (t.withScript more) := by
  induction lines generalizing s with
  | nil =>
    obtain rfl : s = t := by simpa using h
    rfl
  | cons c rest ih =>
    simp only [presentAll] at h
    split at h
    case h_1 u hu => exact (run_succ_next (step_present_withScript (rest ++ more) hu)).trans (ih h)
    all_goals cases h

theorem presentAll_append (front back : List BusCycle) (s : State) :
    presentAll (front ++ back) s = (presentAll front s).bind (presentAll back) := by
  induction front generalizing s with
  | nil => rfl
  | cons c rest ih =>
    simp only [List.cons_append, presentAll]
    split
    · exact ih _
    · rfl
    · rfl

end Sys2Proof.Machine

/-! PROOFS. The lines of steps 1 to 3 of the source's call, presented to an IDLE block (40_commands.md rule R82). -/

namespace Sys2Proof.Machine

open Sys2Proof.Safety Sys2Proof.Machine.Script

/-! ### What a running block is -/

theorem running_valid {s : State} (h : Running s) : s.config.Valid := h.1.1

theorem running_invariants {s : State} (h : Running s) : s.Invariants :=
  let ⟨⟨_, _, hinv⟩, hseen⟩ := h
  hinv hseen

theorem running_fb_length {s : State} (h : Running s) : s.fb.length = s.config.nLeds :=
  let ⟨⟨_, hfb, _⟩, _⟩ := h
  (FrameBuffer.wf_iff _ _).mp hfb

/-! ### One line presented -/

/-- A line without `rst`, presented to a running block, runs the instruction its word decodes to. -/
theorem step_present {s : State} {c : BusCycle} {i : Instr} (h : Running s) (hrst : c.rst = false)
    (hi : decodeWord c.word = i) : step (present c s) = exec i s := by
  rw [step_eq_exec (s := present c s) (running_valid h) hrst h.2 (running_invariants h), present_inputAt_zero,
    present_consumeInput, hi]

/-- What no line of the call touches: the configuration, the error record, and the rest of the host's script. -/
structure SameRecord (s t : State) : Prop where
  config : t.config = s.config
  err : t.err = s.err
  firstErr : t.firstErr = s.firstErr
  script : t.script = s.script

theorem SameRecord.refl (s : State) : SameRecord s s := ⟨rfl, rfl, rfl, rfl⟩

theorem SameRecord.trans {s t u : State} (h : SameRecord s t) (g : SameRecord t u) : SameRecord s u :=
  ⟨g.config.trans h.config, g.err.trans h.err, g.firstErr.trans h.firstErr, g.script.trans h.script⟩

/-- A block that waits for the host's next line. -/
abbrev Waiting (s : State) : Prop := Running s ∧ s.phase = .idle

/-- A PUTLED inside the buffer stores its color and does nothing else (R126). -/
theorem present_putled {s : State} (h : Waiting s) {i : Nat} (hi : i < s.config.nLeds) (r g b : Byte) :
    ∃ t, step (present (putled i r g b) s) = .next t ∧ Waiting t ∧ SameRecord s t ∧ t.oe = s.oe ∧
      t.fb = FrameBuffer.write s.fb i (r ++ g ++ b) := by
  obtain ⟨hr, hp⟩ := h
  have hl := (running_valid hr).nLeds_le
  have hindex : indexOperand (BitVec.ofNat 10 i) = i := by
    rw [indexOperand, BitVec.toNat_ofNat]
    omega
  have he := exec_wrFb_accepted hp (hindex.trans_lt hi) (putledData r g b)
  rw [hindex, colorOperand_putledData] at he
  exact ⟨_, (step_present hr rfl (decodeWord_putled (by omega) r g b)).trans he, ⟨exec_running hr he, hp⟩,
    ⟨rfl, rfl, rfl, rfl⟩, rfl, rfl⟩

/-- R109, while IDLE. -/
theorem exec_wrCtrl_idle {s : State} (hp : s.phase = .idle) (d : Word) :
    exec (.wrCtrl d) s = endCycle s 0#32 { s with oe := oeOperand d } := by
  simp [exec, execWrCtrl, hp, seq_idle hp]

/-- A PINCFG sets OE and does nothing else (R109). -/
theorem present_pincfg {s : State} (h : Waiting s) (b : Bool) :
    ∃ t, step (present (pincfg b) s) = .next t ∧ Waiting t ∧ SameRecord s t ∧ t.oe = b ∧ t.fb = s.fb := by
  obtain ⟨hr, hp⟩ := h
  have he := exec_wrCtrl_idle hp ((BitVec.ofBool b).setWidth 32)
  rw [oeOperand_pincfg] at he
  exact ⟨_, (step_present hr rfl (decodeWord_pincfg b)).trans he, ⟨exec_running hr he, hp⟩, ⟨rfl, rfl, rfl, rfl⟩,
    rfl, rfl⟩

/-! ### Step 1 of the call -/

/-- The buffer holds the given colors from word `i` on. -/
def HoldsFrom (fb : FrameBuffer) (i : Nat) (colors : List (Byte × Byte × Byte)) : Prop :=
  ∀ j r g b, colors[j]? = some (r, g, b) → FrameBuffer.read fb (i + j) = r ++ g ++ b

theorem holdsFrom_cons {fb : FrameBuffer} {i : Nat} {r g b : Byte} {rest : List (Byte × Byte × Byte)}
    (h : FrameBuffer.read fb i = r ++ g ++ b) (hr : HoldsFrom fb (i + 1) rest) : HoldsFrom fb i ((r, g, b) :: rest) := by
  intro j r' g' b' hj
  cases j with
  | zero =>
    cases hj
    exact h
  | succ j =>
    rw [← Nat.succ_add_eq_add_succ]
    exact hr j r' g' b' hj

/-- Step 1 from LED `i` on, on a block whose buffer agrees with `fb` from there on: the PUTLEDs store the colors and leave
the words before `i`. A word skipped holds its color already. -/
theorem presentAll_putleds (skip : Nat → Bool) (fb : FrameBuffer) (colors : List (Byte × Byte × Byte)) :
    ∀ (i : Nat) (s : State), Waiting s → i + colors.length ≤ s.config.nLeds →
      (∀ j, i ≤ j → FrameBuffer.read s.fb j = FrameBuffer.read fb j) →
      ∃ t, presentAll (putleds skip fb i colors) s = some t ∧ Waiting t ∧ SameRecord s t ∧ t.oe = s.oe ∧
        (∀ j, j < i → FrameBuffer.read t.fb j = FrameBuffer.read s.fb j) ∧ HoldsFrom t.fb i colors := by
  induction colors with
  | nil => exact fun i s hw _ _ => ⟨s, rfl, hw, .refl s, rfl, fun _ _ => rfl, fun j r g b hj => by simp at hj⟩
  | cons c rest ih =>
    obtain ⟨r, g, b⟩ := c
    intro i s hw hlen hfb
    rw [List.length_cons] at hlen
    unfold putleds
    split
    case isTrue hskip =>
      obtain ⟨t, ht, hwt, hst, hoe, hbefore, hheld⟩ :=
        ih (i + 1) s hw (by omega) fun j hj => hfb j (by omega)
      have hi : FrameBuffer.read t.fb i = r ++ g ++ b := by
        rw [hbefore i (Nat.lt_succ_self i), hfb i (Nat.le_refl i), hskip.2]
      exact ⟨t, ht, hwt, hst, hoe, fun j hj => hbefore j (by omega), holdsFrom_cons hi hheld⟩
    case isFalse =>
      obtain ⟨u, hu, hwu, hsu, hoeu, hfbu⟩ := present_putled hw (i := i) (by omega) r g b
      obtain ⟨t, ht, hwt, hst, hoe, hbefore, hheld⟩ := ih (i + 1) u hwu (by rw [hsu.config]; omega) fun j hj => by
        rw [hfbu, FrameBuffer.read_write_other s.fb (by omega), hfb j (by omega)]
      have hin : i < s.fb.length := by
        rw [running_fb_length hw.1]
        omega
      have hi : FrameBuffer.read t.fb i = r ++ g ++ b := by
        rw [hbefore i (Nat.lt_succ_self i), hfbu, FrameBuffer.read_write_same hin]
      refine ⟨t, (presentAll_cons_next hu).trans ht, hwt, hsu.trans hst, hoe.trans hoeu, fun j hj => ?_,
        holdsFrom_cons hi hheld⟩
      rw [hbefore j (by omega), hfbu, FrameBuffer.read_write_other s.fb (by omega)]

/-! ### Steps 1 and 2 of the call -/

/-- Step 2 leaves the pin driven and the buffer as it is. -/
theorem presentAll_drivePin {s : State} (h : Waiting s) :
    ∃ t, presentAll (drivePin s.oe) s = some t ∧ Waiting t ∧ SameRecord s t ∧ t.oe = true ∧ t.fb = s.fb := by
  unfold drivePin
  split
  case isTrue ho => exact ⟨s, rfl, h, .refl s, ho, rfl⟩
  case isFalse =>
    obtain ⟨t, ht, hrest⟩ := present_pincfg h true
    exact ⟨t, presentAll_cons_next ht, hrest⟩

/-- The lines of steps 1 and 2: the call's without its TRANSMIT. -/
def stagingLines (skip : Nat → Bool) (fb : FrameBuffer) (oe : Bool) (colors : List (Byte × Byte × Byte))
    (count : Nat) : List BusCycle :=
  putleds skip fb 0 (colors.take count) ++ drivePin oe

theorem callLines_eq_staging (skip : Nat → Bool) (fb : FrameBuffer) (oe : Bool) (colors : List (Byte × Byte × Byte))
    (count : Nat) : callLines skip fb oe colors count = stagingLines skip fb oe colors count ++ [transmit count] := rfl

/-- After steps 1 and 2 the block waits with the pin driven and the first `count` colors in its buffer. -/
theorem presentAll_staging {s : State} (h : Waiting s) (skip : Nat → Bool) {colors : List (Byte × Byte × Byte)}
    {count : Nat} (hn : count ≤ s.config.nLeds) :
    ∃ t, presentAll (stagingLines skip s.fb s.oe colors count) s = some t ∧ Waiting t ∧ SameRecord s t ∧ t.oe = true ∧
      ∀ i r g b, i < count → colors[i]? = some (r, g, b) → FrameBuffer.read t.fb i = r ++ g ++ b := by
  have hlen : 0 + (colors.take count).length ≤ s.config.nLeds := by
    rw [List.length_take]
    omega
  obtain ⟨u, hu, hwu, hsu, hoeu, -, hheld⟩ := presentAll_putleds skip s.fb (colors.take count) 0 s h hlen fun _ _ => rfl
  obtain ⟨t, ht, hwt, hst, hoe, hfb⟩ := presentAll_drivePin hwu
  refine ⟨t, ?_, hwt, hsu.trans hst, hoe, fun i r g b hi hc => ?_⟩
  · rw [stagingLines, presentAll_append, hu, Option.bind_some, ← hoeu, ht]
  · rw [hfb, ← Nat.zero_add i]
    exact hheld i r g b (by rw [List.getElem?_take_of_lt hi, hc])

/-- A count that a block with `n` LEDs can send is a 16-bit operand. -/
theorem count_fits_operand {c : Config} (hv : c.Valid) {n : Nat} (hn : n ≤ c.nLeds) : (BitVec.ofNat 16 n).toNat = n := by
  have hl := hv.nLeds_le
  rw [BitVec.toNat_ofNat]
  omega

/-- The TRANSMIT of step 3, where it comes next in the script of a waiting block with its pin driven, is accepted. -/
theorem accepts_transmit {s : State} (h : Waiting s) (ho : s.oe = true) {n : Nat} (hn : n ≤ s.config.nLeds)
    (hc : s.inputAt 0 = transmit n) : Accepts (BitVec.ofNat 16 n) s := by
  obtain ⟨hr, hp⟩ := h
  have hv := running_valid hr
  have hl := hv.nLeds_le
  exact ⟨hr, by rw [hc]; rfl, by rw [hc]; exact decodeWord_transmit (by omega), hp, ho,
    (count_fits_operand hv hn).trans_le hn⟩

/-- Settles O54: presented one by one, the lines before the TRANSMIT stage the colors (`presentAll_staging`), and a script
that begins with them does the same (`run_of_presentAll`). -/
theorem callSequenceStagesColors : Obligations.CallSequenceStagesColors := by
  intro s skip colors count rest hr hp _ hn hscript
  obtain ⟨t, ht, hw, hst, hoe, hheld⟩ := presentAll_staging ⟨hr, hp⟩ skip (colors := colors) hn
  have hnt : count ≤ t.config.nLeds := by rwa [hst.config]
  have hrun := run_of_presentAll ht (transmit count :: rest)
  rw [List.append_cons] at hrun
  rw [callLines_eq_staging] at hscript
  rw [← hscript, State.withScript_self] at hrun
  refine ⟨_, t.withScript (transmit count :: rest), (List.length_append (bs := [transmit count])).symm, hrun, ?_,
    hst.err, hst.firstErr, hheld⟩
  exact accepts_transmit (s := t.withScript (transmit count :: rest)) hw hoe hnt rfl

end Sys2Proof.Machine

/-! PROOFS. The TRANSMIT and the WAITIDLE of the source's call (40_commands.md rule R82, 41_bit_sequencer.md rule R101). -/

namespace Sys2Proof.Machine

open Sys2Proof.Safety Sys2Proof.Machine.Script

/-! ### The TRANSMIT -/

/-- A TRANSMIT that is accepted makes the block BUSY for `BUSYCYC(n)` cycles and keeps OE and the frame buffer (R76, R94). -/
theorem present_transmit {s : State} (h : Waiting s) (ho : s.oe = true) {n : Nat} (hn : n ≤ s.config.nLeds) :
    ∃ t, step (present (transmit n) s) = .next t ∧ Running t ∧ SameRecord s t ∧ t.phase = .bits ∧
      t.busyLeft = s.config.busyCycles n ∧ t.cnt.toNat = n ∧ t.oe = true ∧ t.fb = s.fb := by
  obtain ⟨hr, hp⟩ := h
  have hv := running_valid hr
  have hl := hv.nLeds_le
  have hcount := count_fits_operand hv hn
  have he := exec_transmit_accepted hp ho (hcount.trans_le hn)
  rw [hcount] at he
  exact ⟨_, (step_present hr rfl (decodeWord_transmit (by omega))).trans he, exec_running hr he, ⟨rfl, rfl, rfl, rfl⟩,
    rfl, accept_busyLeft (s := s) (s1 := s) hv hn, count_fits_cnt hv hn, ho, rfl⟩

/-! ### The WAITIDLE -/

/-- The lowest bit of a word put together with one bit below. -/
theorem append_ofBool_bit0 {n : Nat} (x : BitVec n) (b : Bool) : (x ++ BitVec.ofBool b).getLsbD 0 = b := by
  rw [BitVec.getLsbD_append]
  exact BitVec.getLsbD_ofBool b 0

/-- R34: the lowest bit of STATUS is BUSY, the one WAITIDLE looks at. -/
theorem statusWord_masked (s : State) : statusWord s &&& 0x1#32 = 0x0#32 ↔ s.phase = .idle := by
  have hbusy : (statusWord s).getLsbD 0 = busy s := append_ofBool_bit0 _ (busy s)
  rw [BitVec.and_one_eq_setWidth_ofBool_getLsbD, hbusy]
  cases hp : s.phase <;> simp [busy, hp]

/-- What a wait leaves of the block: all that the sequencer never writes (R100). -/
structure SameBlock (s t : State) : Prop extends SameRecord s t where
  oe : t.oe = s.oe
  cnt : t.cnt = s.cnt
  fb : t.fb = s.fb

theorem SameBlock.trans {s t u : State} (h : SameBlock s t) (g : SameBlock t u) : SameBlock s u :=
  ⟨h.toSameRecord.trans g.toSameRecord, g.oe.trans h.oe, g.cnt.trans h.cnt, g.fb.trans h.fb⟩

/-- One read of STATUS: the sequencer steps and nothing else, and the read data are STATUS before the edge (R111). -/
theorem present_rdStatus {s : State} (h : Running s) :
    ∃ t, step (present (rd status) s) = .next t ∧ Running t ∧ SameBlock s t ∧ t.phase = (seq s).phase ∧
      t.done = (seq s).done ∧ t.busyLeft = (seq s).busyLeft ∧ t.out.busRdata = statusWord s := by
  have he : exec (.rdStatus 0#32) s = .next { seq s with out := outputs s false (statusWord s) } := rfl
  refine ⟨_, (step_present h rfl decodeWord_rdStatus).trans he, exec_running h he, ?_, rfl, rfl, rfl, rfl⟩
  exact ⟨⟨seq_config s, seq_err s, seq_firstErr s, seq_script s⟩, seq_oe s, seq_cnt s, seq_fb s⟩

/-- While IDLE the first read ends the wait. -/
theorem waitIdle_of_idle {s : State} (h : Waiting s) (reads : Nat) :
    ∃ t, waitIdle (reads + 1) s = some (t, 1) ∧ SameBlock s t ∧ t.phase = .idle ∧ t.done = s.done := by
  obtain ⟨hr, hp⟩ := h
  obtain ⟨t, ht, -, hsame, hphase, hdone, -, hdata⟩ := present_rdStatus hr
  rw [seq_idle hp] at hphase hdone
  refine ⟨t, ?_, hsame, hphase.trans hp, hdone⟩
  rw [waitIdle, poll_succ_next ht, hdata, if_pos ((statusWord_masked s).mpr hp)]

/-- While BUSY a read uses up one cycle and the wait goes on. -/
theorem waitIdle_of_busy {s : State} (h : Running s) (hp : s.phase ≠ .idle) :
    ∃ t, (∀ reads, waitIdle (reads + 1) s = (waitIdle reads t).map (fun r => (r.1, r.2 + 1))) ∧ Running t ∧
      SameBlock s t ∧ t.busyLeft + 1 = s.busyLeft ∧ (t.phase = .idle → t.done = true) := by
  obtain ⟨t, ht, hrt, hsame, hphase, hdone, hleft, hdata⟩ := present_rdStatus h
  refine ⟨t, fun reads => ?_, hrt, hsame, ?_, fun hi => ?_⟩
  · rw [waitIdle, poll_succ_next ht, hdata, if_neg (mt (statusWord_masked s).mp hp)]
    rfl
  · rw [hleft, seq_busyLeft (running_valid h) (running_invariants h) hp]
  · rw [hdone, seq_enters_idle_done hp (hphase.symm.trans hi)]

/-- A WAITIDLE takes one read for each BUSY cycle left, and one more, whatever larger bound the host sets. -/
theorem waitIdle_ends {n : Nat} : ∀ {s : State} {reads : Nat}, Running s → (s.phase = .idle → s.done = true) →
    s.busyLeft = n → n + 1 ≤ reads → ∃ t, waitIdle reads s = some (t, n + 1) ∧ Ended t ∧ SameBlock s t := by
  induction n with
  | zero =>
    intro s reads hr hd hleft hreads
    obtain ⟨m, rfl⟩ := Nat.exists_eq_add_one.mpr hreads
    have hp : s.phase = .idle := by
      by_contra hp
      have hone := seq_busyLeft (running_valid hr) (running_invariants hr) hp
      omega
    obtain ⟨t, ht, hsame, hphase, hdone⟩ := waitIdle_of_idle ⟨hr, hp⟩ m
    exact ⟨t, ht, ⟨hphase, hdone.trans (hd hp)⟩, hsame⟩
  | succ n ih =>
    intro s reads hr hd hleft hreads
    obtain ⟨m, rfl⟩ := Nat.exists_eq_add_one.mpr (Nat.zero_lt_of_lt hreads)
    have hp : s.phase ≠ .idle := by
      intro hp
      rw [State.busyLeft_idle hp] at hleft
      omega
    obtain ⟨t, hwait, hrt, hsame, hone, hdone⟩ := waitIdle_of_busy hr hp
    obtain ⟨u, hu, hend, hsame'⟩ := ih hrt hdone (by omega) (Nat.le_of_succ_le_succ hreads)
    exact ⟨u, by rw [hwait, hu]; rfl, hend, hsame.trans hsame'⟩

/-- Settles O56: steps 1 and 2 stage the colors, the TRANSMIT is accepted, and the WAITIDLE reads `BUSYCYC(count)` times
BUSY and then once IDLE. -/
theorem callReturnsAfterResetPulse : Obligations.CallReturnsAfterResetPulse := by
  intro s skip colors count reads hr hp _ hn hreads
  obtain ⟨t, ht, hw, hst, hoe, hheld⟩ := presentAll_staging ⟨hr, hp⟩ skip (colors := colors) hn
  have hnt : count ≤ t.config.nLeds := by rwa [hst.config]
  obtain ⟨u, hu, hru, htu, hpu, hleft, hcnt, hoeu, hfbu⟩ := present_transmit hw hoe hnt
  rw [hst.config] at hleft
  obtain ⟨v, hv, hend, huv⟩ := waitIdle_ends hru (fun hi => absurd (hpu.symm.trans hi) (by decide)) hleft hreads
  have hsv := (hst.trans htu).trans huv.toSameRecord
  refine ⟨v, ?_, hend, hsv.err, hsv.firstErr, huv.oe.trans hoeu, by rw [huv.cnt, hcnt], hsv.script, ?_⟩
  · rw [call, callLines_eq_staging, presentAll_append, ht, Option.bind_some, presentAll_cons_next hu, presentAll_nil,
      Option.bind_some, hv]
  · rw [huv.fb, hfbu]
    exact hheld

end Sys2Proof.Machine

/-! PROOFS. One cycle of the sequencer, whatever the transaction (41_bit_sequencer.md rules R84 to R91). -/

namespace Sys2Proof.Machine

open Sys2Proof.Safety

/-! ### Every transaction completes, and what it can change -/

/-- R132: no transaction stops the block, in any state. -/
theorem exec_completes (i : Instr) (s : State) : ∃ t, exec i s = .next t := by
  cases i with
  | wrCtrl d =>
    simp only [exec, execWrCtrl]
    split <;> exact ⟨_, rfl⟩
  | transmit count =>
    simp only [exec, execTransmit]
    split
    · exact ⟨_, rfl⟩
    · split
      · exact ⟨_, rfl⟩
      · split <;> exact ⟨_, rfl⟩
  | rdFb index d =>
    simp only [exec, execRdFb]
    split <;> exact ⟨_, rfl⟩
  | wrFb index d =>
    simp only [exec, execWrFb]
    split
    · exact ⟨_, rfl⟩
    · split <;> exact ⟨_, rfl⟩
  | idle | nop | rdCtrl | rdCmd | rdStatus | rdXcount | rdPos | rdConfig | rdTiming0 | rdTiming1 | rdFclk
      | badAlignOdd | badAlignHalf | badAddr | cmdReserved | wrStatus | wrXcount | wrPos | wrConfig | wrTiming0
      | wrTiming1 | wrFclk => exact ⟨_, rfl⟩

/-- R91, R102: only the read data of a cycle depend on the transaction. -/
theorem exec_out {i : Instr} {s t : State} (h : exec i s = .next t) : ∃ r, t.out = outputs s false r := by
  rcases exec_cases h with ⟨r, rfl⟩ | ⟨e, rfl⟩ | ⟨d, -, -, rfl⟩ | ⟨n, -, -, -, -, rfl⟩ | ⟨j, d, -, -, -, rfl⟩
  · exact ⟨r, rfl⟩
  all_goals exact ⟨0#32, rfl⟩

/-- R77, R90: while BUSY a cycle is the sequencer's step, with an error record and read data. -/
theorem exec_busy {s : State} (hp : s.phase ≠ .idle) (i : Instr) :
    ∃ e f r, exec i s = .next { seq s with err := e, firstErr := f, out := outputs s false r } := by
  obtain ⟨t, ht⟩ := exec_completes i s
  rw [ht]
  rcases exec_cases ht with
    ⟨r, rfl⟩ | ⟨e, rfl⟩ | ⟨d, -, hi, -⟩ | ⟨n, -, hi, -⟩ | ⟨j, d, -, hi, -⟩
  · exact ⟨_, _, r, rfl⟩
  · exact ⟨_, _, 0#32, rfl⟩
  all_goals exact absurd hi hp

/-! ### The output ports -/

section
variable (s : State) (r : Word)

@[simp] theorem outputs_pinOe : (outputs s false r).pinOe = s.oe := rfl
@[simp] theorem outputs_pinOut : (outputs s false r).pinOut = (slotActive s && hiWin s) := rfl
@[simp] theorem outputs_irqInhibit : (outputs s false r).irqInhibit = s.inh := rfl

end

theorem slotActive_iff (s : State) : slotActive s = true ↔ s.phase = .bits ∧ 0 < s.cnt.toNat := by
  simp [slotActive]

/-- R91: the line is high in a slot's first `TH` cycles. -/
theorem slotActive_and_hiWin_iff (s : State) :
    (slotActive s && hiWin s) = true ↔
      s.phase = .bits ∧ 0 < s.cnt.toNat ∧ s.cyc.toNat < highCycles s.config (sentBit s) := by
  rw [Bool.and_eq_true, slotActive_iff, hiWin, decide_eq_true_iff, and_assoc]

theorem slotActive_of_not_bits {s : State} (hp : s.phase ≠ .bits) : slotActive s = false := by
  simp [slotActive, hp]

theorem slotActive_of_empty {s : State} (hn : s.cnt.toNat = 0) : slotActive s = false := by
  simp [slotActive, hn]

/-- Settles O39: every transaction completes and leaves the outputs of the state before the edge. -/
theorem outputsFollowState : Obligations.OutputsFollowState := by
  intro i s
  obtain ⟨t, ht⟩ := exec_completes i s
  obtain ⟨r, hr⟩ := exec_out ht
  refine ⟨t, ht, by rw [hr, outputs_pinOe], by rw [hr, outputs_irqInhibit], ?_⟩
  rw [hr, outputs_pinOut]
  exact slotActive_and_hiWin_iff s

/-- Settles O41: of all that a cycle can be while IDLE, only an accepted TRANSMIT writes the phase. -/
theorem idleHoldsUntilTransmit : Obligations.IdleHoldsUntilTransmit := by
  intro i s t hp h
  have hseq := seq_idle hp
  refine ⟨hseq, fun hne => ?_⟩
  rcases exec_cases h with
    ⟨r, rfl⟩ | ⟨e, rfl⟩ | ⟨d, -, -, rfl⟩ | ⟨n, hi, -, ho, hn, rfl⟩ | ⟨j, d, -, -, -, rfl⟩
  case inr.inr.inr.inl => exact ⟨n, hi, ho, hn, rfl⟩
  all_goals exact absurd ((congrArg State.phase hseq).trans hp) hne

/-- Settles O46: both cycles are the sequencer's step, by `exec_busy`. -/
theorem hostCannotDisturbTransmission : Obligations.HostCannotDisturbTransmission := by
  intro i j s hp
  obtain ⟨e, f, r, ht⟩ := exec_busy hp i
  obtain ⟨e', f', r', hu⟩ := exec_busy hp j
  exact ⟨_, _, ht, hu, rfl⟩

/-! ### The sequencer's step, one equation per case of R85 to R88 -/

section
variable {s : State}

theorem seq_emptyBits (hp : s.phase = .bits) (hn : s.cnt.toNat = 0) : seq s = endEmptyBits s := by
  simp [seq, hp, seqBits, hn]

theorem seq_nextCycle (hp : s.phase = .bits) (hn : 0 < s.cnt.toNat) (hc : s.cyc.toNat < s.config.tbitCyc - 1) :
    seq s = nextCycle s := by
  simp [seq, hp, seqBits, hn.ne', hc]

theorem seq_nextBit (hp : s.phase = .bits) (hn : 0 < s.cnt.toNat) (hc : s.cyc.toNat = s.config.tbitCyc - 1)
    (hb : 0 < s.bit.toNat) : seq s = nextBit s := by
  simp [seq, hp, seqBits, hn.ne', hc, hb]

theorem seq_nextLed (hp : s.phase = .bits) (hn : 0 < s.cnt.toNat) (hc : s.cyc.toNat = s.config.tbitCyc - 1)
    (hb : s.bit.toNat = 0) (hl : s.led.toNat + 1 < s.cnt.toNat) : seq s = nextLed s := by
  simp [seq, hp, seqBits, hn.ne', hc, hb, hl]

theorem seq_endLastSlot (hp : s.phase = .bits) (hn : 0 < s.cnt.toNat) (hc : s.cyc.toNat = s.config.tbitCyc - 1)
    (hb : s.bit.toNat = 0) (hl : s.cnt.toNat ≤ s.led.toNat + 1) : seq s = endLastSlot s := by
  simp [seq, hp, seqBits, hn.ne', hc, hb, Nat.not_lt.mpr hl]

theorem seq_nextResetCycle (hp : s.phase = .reset) (hr : s.rcnt.toNat < s.config.tresetCyc - 1) :
    seq s = nextResetCycle s := by
  simp [seq, hp, seqReset, hr]

theorem seq_endReset (hp : s.phase = .reset) (hr : s.rcnt.toNat = s.config.tresetCyc - 1) :
    seq s = endReset s := by
  simp [seq, hp, seqReset, hr]

end

/-- DONE moves only with TRANSMIT and at the end of the reset pulse. -/
theorem seqBits_done (s : State) : (seqBits s).done = s.done := by
  rcases seqBits_cases s with ⟨-, h⟩ | ⟨-, -, h⟩ | ⟨-, -, -, h⟩ | ⟨-, -, -, -, h⟩ | ⟨-, -, -, -, h⟩ <;> simp [h]

/-- R86 writes no `rcnt`: up to the last slot's end it rests. -/
theorem seqBits_rcnt {s : State} (hn : 0 < s.cnt.toNat)
    (h : s.cyc.toNat < s.config.tbitCyc - 1 ∨ 0 < s.bit.toNat ∨ s.led.toNat + 1 < s.cnt.toNat) :
    (seqBits s).rcnt = s.rcnt := by
  rcases seqBits_cases s with ⟨h0, -⟩ | ⟨-, -, hs⟩ | ⟨-, -, -, hs⟩ | ⟨-, -, -, -, hs⟩ | ⟨-, hc, hb, hl, -⟩
  · exact absurd h0 hn.ne'
  · rw [hs, nextCycle_rcnt]
  · rw [hs, nextBit_rcnt]
  · rw [hs, nextLed_rcnt]
  · omega

/-! ### The counters do not wrap -/

/-- `TBIT_CYC` fits in the register `cyc` (V5). -/
theorem nextCycle_cyc_toNat {s : State} (hv : s.config.Valid) (hc : s.cyc.toNat < s.config.tbitCyc - 1) :
    (nextCycle s).cyc.toNat = s.cyc.toNat + 1 := by
  have hb := hv.tbitCyc_le
  rw [nextCycle_cyc, BitVec.toNat_ofNat]
  omega

theorem nextBit_bit_toNat (s : State) : (nextBit s).bit.toNat = s.bit.toNat - 1 := by
  rw [nextBit_bit, BitVec.toNat_ofNat]
  omega

/-- `TRESET_CYC` fits in the register `rcnt` (V5). -/
theorem nextResetCycle_rcnt_toNat {s : State} (hv : s.config.Valid) (hr : s.rcnt.toNat < s.config.tresetCyc - 1) :
    (nextResetCycle s).rcnt.toNat = s.rcnt.toNat + 1 := by
  have hb := hv.tresetCyc_lt
  rw [nextResetCycle_rcnt, BitVec.toNat_ofNat]
  omega

/-! ### The cases of R85 to R88, in a cycle with any transaction -/

/-- Settles O42: the cycle is `endEmptyBits` (R85), and with a count of 0 no slot is active. -/
theorem emptyBitsCycleStartsReset : Obligations.EmptyBitsCycleStartsReset := by
  intro i s hp hn
  obtain ⟨e, f, r, h⟩ := exec_busy (s := s) (by simp [hp]) i
  refine ⟨_, h, ?_⟩
  simp [seq_emptyBits hp hn, slotActive_of_empty hn]

/-- Settles O43: the three updates of R86 under their guards. -/
theorem slotsAdvanceBitByBit : Obligations.SlotsAdvanceBitByBit := by
  intro i s hr hp hn
  have hv := running_valid hr
  have hi := running_invariants hr
  have hled : s.led.toNat < s.cnt.toNat := let ⟨_, _, h3, _⟩ := hi; h3 hp hn
  obtain ⟨e, f, r, h⟩ := exec_busy (s := s) (by simp [hp]) i
  refine ⟨_, h, fun hc => ?_, fun hc hb => ?_, fun hc hb hl => ?_, fun hne => ?_, ?_⟩
  · simp [seq_nextCycle hp hn hc, hp, -nextCycle_cyc, nextCycle_cyc_toNat hv hc]
  · simp [seq_nextBit hp hn hc hb, hp, -nextBit_bit, nextBit_bit_toNat]
  · simp [seq_nextLed hp hn hc hb hl, hp, -BitVec.toNat_ofNat, led_succ_toNat hi hv hled]
  · exact (congrArg State.rcnt (seq_bits hp)).trans (seqBits_rcnt hn hne)
  · exact ⟨seq_cnt s, (congrArg State.done (seq_bits hp)).trans (seqBits_done s), seq_oe s, seq_fb s, seq_config s⟩

/-- Settles O44: the cycle is `endLastSlot` (R87). -/
theorem lastSlotStartsReset : Obligations.LastSlotStartsReset := by
  intro i s hr hp hn hc hb hl
  have hled := led_succ_toNat (running_invariants hr) (running_valid hr) (by omega)
  obtain ⟨e, f, r, h⟩ := exec_busy (s := s) (by simp [hp]) i
  refine ⟨_, h, ?_⟩
  have hbit : s.bit = 0#5 := BitVec.eq_of_toNat_eq hb
  simp [seq_endLastSlot hp hn hc hb hl.ge, hbit, -BitVec.toNat_ofNat, hled]

/-- Settles O45: the two updates of R88, and no slot is active in RESET. -/
theorem resetPulseCountsAndEnds : Obligations.ResetPulseCountsAndEnds := by
  intro i s hr hp
  obtain ⟨e, f, r, h⟩ := exec_busy (s := s) (by simp [hp]) i
  refine ⟨_, h, fun hc => ?_, fun hc => ?_, ?_⟩
  · simp [seq_nextResetCycle hp hc, hp, -nextResetCycle_rcnt, nextResetCycle_rcnt_toNat (running_valid hr) hc]
  · simp [seq_endReset hp hc]
  · have hout := slotActive_of_not_bits (s := s) (by simp [hp])
    rcases seqReset_cases s with ⟨-, hs⟩ | ⟨-, hs⟩ <;> simp [seq_reset hp, hs, hout]

end Sys2Proof.Machine

/-! PROOFS. Runs and traces cut in two (00_scope.md rule R6). -/

namespace Sys2Proof.Safety

open Sys2Proof.Machine

/-- A run of `j + k` steps is one of `j` and then one of `k`. -/
theorem run_add {j : Nat} {s t : State} (h : run j s = .next t) (k : Nat) : run (j + k) s = run k t := by
  induction j generalizing s with
  | zero =>
    cases h
    rw [Nat.zero_add]
  | succ j ih =>
    obtain ⟨u, hs, hu⟩ := run_succ_cases h
    rw [Nat.succ_add, run_succ_next hs, ih hu]

/-- Fewer cycles of a run without `rst`. -/
theorem NoRst.mono {j k : Nat} {s : State} (h : NoRst k s) (hjk : j ≤ k) : NoRst j s :=
  fun i hi => h i (Nat.lt_of_lt_of_le hi hjk)

/-- A run uses up its cycles without `rst`. -/
theorem NoRst.run {j k : Nat} {s t : State} (hn : NoRst (j + k) s) (h : run j s = .next t) : NoRst k t := by
  intro i hi
  rw [run_keeps_input h]
  exact hn _ (by omega)

/-- A trace of `j + k` cycles is one of `j` and then one of `k`. -/
theorem trace_add {j : Nat} {s t : State} (h : run j s = .next t) (k : Nat) :
    trace (j + k) s = trace j s ++ trace k t := by
  induction j generalizing s with
  | zero =>
    cases h
    simp
  | succ j ih =>
    obtain ⟨u, hs, hu⟩ := run_succ_cases h
    rw [Nat.succ_add, trace_succ_next hs, trace_succ_next hs, ih hu, List.cons_append]

/-- What a trace shows of its outputs, cycle by cycle. -/
theorem trace_map {α : Type} (g : Outputs → α) {f : Nat → α} {k : Nat} {s : State}
    (h : ∀ i, i < k → ∃ t, run (i + 1) s = .next t ∧ g t.out = f i) :
    (trace k s).map g = (List.range k).map f := by
  induction k generalizing s f with
  | zero => rfl
  | succ k ih =>
    obtain ⟨t, ht, hg⟩ := h 0 (Nat.zero_lt_succ k)
    obtain ⟨u, hs, hu⟩ := run_succ_cases ht
    obtain rfl : u = t := Host.Outcome.next.inj hu
    have hrest : (trace k u).map g = (List.range k).map (f ∘ Nat.succ) := ih fun i hi => by
      obtain ⟨v, hv, hgv⟩ := h (i + 1) (Nat.succ_lt_succ hi)
      exact ⟨v, (run_succ_next hs).symm.trans hv, hgv⟩
    rw [trace_succ_next hs, List.map_cons, hg, hrest, List.range_succ_eq_map, List.map_cons, List.map_map]

end Sys2Proof.Safety

/-! PROOFS. Whole transmissions (41_bit_sequencer.md rules R92 to R97, R101). The BUSY cycles left (`State.busyLeft`) give
the place in the frame: the sequencer's position is read off them, whatever the host presented. -/

namespace Sys2Proof.Machine

open Sys2Proof.Safety

/-! ### The phase and the position, read off the BUSY cycles left -/

section
variable {s : State}

/-- The reset pulse is still whole during BITS, and under way in RESET. -/
theorem busyLeft_of_bits (h : s.Invariants) (hp : s.phase = .bits) : s.config.tresetCyc < s.busyLeft := by
  obtain ⟨-, -, -, h4, -⟩ := h
  obtain hn | hn := Nat.eq_zero_or_pos s.cnt.toNat
  · rw [State.busyLeft_emptyBits hp hn]
    omega
  · rw [State.busyLeft_slot hp hn]
    omega

theorem busyLeft_of_reset (h : s.Invariants) (hp : s.phase = .reset) :
    0 < s.busyLeft ∧ s.busyLeft ≤ s.config.tresetCyc := by
  obtain ⟨-, -, -, -, h5, -⟩ := h
  rw [State.busyLeft_reset hp]
  omega

theorem phase_idle_iff_busyLeft (h : s.Invariants) : s.phase = .idle ↔ s.busyLeft = 0 := by
  cases hp : s.phase with
  | idle => simp [State.busyLeft_idle hp]
  | bits => simpa using (Nat.zero_lt_of_lt (busyLeft_of_bits h hp)).ne'
  | reset => simpa using (busyLeft_of_reset h hp).1.ne'

theorem phase_bits_iff_busyLeft (h : s.Invariants) : s.phase = .bits ↔ s.config.tresetCyc < s.busyLeft := by
  cases hp : s.phase with
  | idle => simp [State.busyLeft_idle hp]
  | bits => simpa using busyLeft_of_bits h hp
  | reset => simpa using (busyLeft_of_reset h hp).2

theorem phase_reset_iff_busyLeft (h : s.Invariants) :
    s.phase = .reset ↔ 0 < s.busyLeft ∧ s.busyLeft ≤ s.config.tresetCyc := by
  have hbits := phase_bits_iff_busyLeft h
  have hidle := phase_idle_iff_busyLeft h
  refine ⟨busyLeft_of_reset h, fun ⟨hpos, hle⟩ => ?_⟩
  cases hp : s.phase with
  | idle => exact absurd (hidle.mp hp) hpos.ne'
  | bits => exact absurd (hbits.mp hp) (Nat.not_lt.mpr hle)
  | reset => rfl

/-- A multiple of `L` and a rest between 1 and `2 * L - 1` that together make a multiple: the rest is `L`. -/
theorem rest_of_multiples {a b x L : Nat} (h : a * L + x = b * L) (hpos : 0 < x) (hlt : x < 2 * L) :
    x = L ∧ b = a + 1 := by
  have hb : b = a + 1 := by
    have hab : a < b := Nat.lt_of_mul_lt_mul_right (a := L) (by omega)
    have hba : b < a + 2 := Nat.lt_of_mul_lt_mul_right (a := L) (by rw [Nat.add_mul]; omega)
    omega
  rw [hb, Nat.add_mul] at h
  omega

/-- With `24 * cnt * L - (k * L + c)` slot cycles left the sequencer stands in cycle `c` of slot `k`. -/
theorem position_of_busyLeft (h : s.Invariants) (hp : s.phase = .bits) (hn : 0 < s.cnt.toNat) {k c : Nat}
    (hc : c < s.config.tbitCyc)
    (hleft : s.busyLeft + (k * s.config.tbitCyc + c) = 24 * s.cnt.toNat * s.config.tbitCyc + s.config.tresetCyc) :
    s.led.toNat = k / 24 ∧ s.bit.toNat = 23 - k % 24 ∧ s.cyc.toNat = c := by
  obtain ⟨-, -, h3, h4, -, h6, -⟩ := h
  have hled := h3 hp hn
  rw [State.busyLeft_slot hp hn] at hleft
  have hsum : (24 * (s.cnt.toNat - s.led.toNat - 1) + s.bit.toNat + k) * s.config.tbitCyc +
      (s.config.tbitCyc - s.cyc.toNat + c) = 24 * s.cnt.toNat * s.config.tbitCyc := by
    rw [Nat.add_mul _ k]
    omega
  obtain ⟨hrest, hslots⟩ := rest_of_multiples hsum (by omega) (by omega)
  omega

end

/-! ### The latched word (R27) -/

/-- During BITS the latched word is the frame buffer's for the LED being sent. -/
def State.Latched (s : State) : Prop := s.phase = .bits → s.w = FrameBuffer.read s.fb s.led.toNat

theorem seqBits_latched {s : State} (hv : s.config.Valid) (h : s.Invariants) (hl : s.Latched)
    (hb : s.phase = .bits) : (seqBits s).Latched := by
  rcases seqBits_cases s with ⟨-, hs⟩ | ⟨-, -, hs⟩ | ⟨-, -, -, hs⟩ | ⟨hn, -, -, hlt, hs⟩ | ⟨-, -, -, -, hs⟩ <;> rw [hs]
  · exact fun hp => by simp at hp
  · exact fun _ => hl hb
  · exact fun _ => hl hb
  · intro _
    rw [nextLed_led, led_succ_toNat h hv (by omega), nextLed_w, nextLed_fb]
  · exact fun hp => by simp at hp

/-- RESET does not go back to BITS. -/
theorem seqReset_latched {s : State} (hp : s.phase = .reset) : (seqReset s).Latched := by
  rcases seqReset_cases s with ⟨-, hs⟩ | ⟨-, hs⟩ <;> rw [hs]
  · exact fun hb => by simp [hp] at hb
  · exact fun hb => by simp at hb

theorem seq_latched {s : State} (hv : s.config.Valid) (h : s.Invariants) (hl : s.Latched) : (seq s).Latched := by
  cases hp : s.phase with
  | idle => rwa [seq_idle hp]
  | bits =>
    rw [seq_bits hp]
    exact seqBits_latched hv h hl hp
  | reset =>
    rw [seq_reset hp]
    exact seqReset_latched hp

/-! ### The state `m` cycles into a transmission -/

/-- `t` is a state that `m` edges after the accepting one lead to, where the TRANSMIT of `n` was accepted in `s`. -/
structure Transmitting (s : State) (n m : Nat) (t : State) : Prop where
  running : Running t
  config : t.config = s.config
  fb : t.fb = s.fb
  oe : t.oe = true
  cnt : t.cnt.toNat = n
  latched : t.Latched
  left : t.busyLeft + m = s.config.busyCycles n
  ended : t.phase = .idle → t.done = true

/-- `u` holds the outputs of a cycle in the state `t` with `rst = 0`. -/
def ShowsOutputs (t u : State) : Prop := ∃ r, u.out = outputs t false r

theorem State.consumeInput_busyLeft (s : State) : s.consumeInput.busyLeft = s.busyLeft := by
  simp [State.busyLeft]

theorem State.consumeInput_latched (s : State) : s.consumeInput.Latched ↔ s.Latched := by
  simp [State.Latched]

/-- The outputs of a cycle do not depend on what the host presents after it. -/
theorem outputs_consumeInput (s : State) (r : Word) : outputs s.consumeInput false r = outputs s false r := by
  unfold State.consumeInput
  split <;> rfl

/-- A step with `rst = 0` is a cycle, and shows the outputs of its state. -/
theorem step_showsOutputs {s t : State} (h : step s = .next t) (hrst : (s.inputAt 0).rst = false) :
    ShowsOutputs s t := by
  obtain ⟨-, ⟨hr, -⟩ | ⟨-, -, -, he⟩⟩ := step_cases h
  · simp [hrst] at hr
  · obtain ⟨r, hr⟩ := exec_out he
    exact ⟨r, hr.trans (outputs_consumeInput s r)⟩

/-- A running block's step with `rst = 0`. -/
theorem step_running_eq {s : State} (h : Running s) (hrst : (s.inputAt 0).rst = false) :
    step s = exec (decodeWord (s.inputAt 0).word) s.consumeInput :=
  step_eq_exec (running_valid h) hrst h.2 (running_invariants h)

/-- An accepted TRANSMIT starts the transmission (R76). -/
theorem exec_transmit_transmitting {s : State} {count : BitVec 16} (h : Running s) (hp : s.phase = .idle)
    (ho : s.oe = true) (hn : count.toNat ≤ s.config.nLeds) :
    ∃ t, exec (.transmit count) s = .next t ∧ Transmitting s count.toNat 0 t := by
  have hv := running_valid h
  have he := exec_transmit_accepted hp ho hn
  refine ⟨_, he, ?_⟩
  exact {
    running := exec_running h he
    config := rfl
    fb := rfl
    oe := ho
    cnt := count_fits_cnt hv hn
    latched := fun _ => rfl
    left := (Nat.add_zero _).trans (accept_busyLeft (s := s) (s1 := s) hv hn)
    ended := fun hi => by simp at hi }

section
variable {s t : State} {n m : Nat}

theorem Transmitting.consumeInput (h : Transmitting s n m t) : Transmitting s n m t.consumeInput where
  running := consumeInput_running h.running
  config := (State.consumeInput_config t).trans h.config
  fb := (State.consumeInput_fb t).trans h.fb
  oe := (State.consumeInput_oe t).trans h.oe
  cnt := (congrArg BitVec.toNat (State.consumeInput_cnt t)).trans h.cnt
  latched := (State.consumeInput_latched t).mpr h.latched
  left := by rw [State.consumeInput_busyLeft, h.left]
  ended := by simpa using h.ended

/-- What a transmission depends on in its accepting state does not include the host's input. -/
theorem Transmitting.of_consumeInput (h : Transmitting s.consumeInput n m t) : Transmitting s n m t where
  running := h.running
  config := h.config.trans (State.consumeInput_config s)
  fb := h.fb.trans (State.consumeInput_fb s)
  oe := h.oe
  cnt := h.cnt
  latched := h.latched
  left := by rw [h.left, State.consumeInput_config]
  ended := h.ended

/-- The accepting cycle `t0` of R93. -/
theorem accepts_step {count : BitVec 16} (h : Accepts count s) :
    ∃ t, step s = .next t ∧ Transmitting s count.toNat 0 t := by
  obtain ⟨hr, hrst, hd, hp, ho, hn⟩ := h
  obtain ⟨t, ht, hst⟩ := exec_transmit_transmitting (count := count) (consumeInput_running hr) (by simpa using hp)
    (by simpa using ho) (by simpa using hn)
  exact ⟨t, by rw [step_running_eq hr hrst, hd, ht], hst.of_consumeInput⟩

/-- A BUSY cycle takes the transmission one cycle on, whatever the transaction (R90). -/
theorem Transmitting.after_exec (h : Transmitting s n m t) (hp : t.phase ≠ .idle) (i : Instr) :
    ∃ u, exec i t = .next u ∧ Transmitting s n (m + 1) u := by
  obtain ⟨e, f, r, he⟩ := exec_busy hp i
  have hv := running_valid h.running
  have hi := running_invariants h.running
  have hone : (seq t).busyLeft + 1 = t.busyLeft := seq_busyLeft hv hi hp
  refine ⟨_, he, ?_⟩
  exact {
    running := exec_running h.running he
    config := (seq_config t).trans h.config
    fb := (seq_fb t).trans h.fb
    oe := (seq_oe t).trans h.oe
    cnt := (congrArg BitVec.toNat (seq_cnt t)).trans h.cnt
    latched := seq_latched hv hi h.latched
    left := by
      show (seq t).busyLeft + (m + 1) = _
      rw [← h.left]
      omega
    ended := seq_enters_idle_done hp }

theorem Transmitting.busy (h : Transmitting s n m t) (hm : m < s.config.busyCycles n) : t.phase ≠ .idle := by
  have hleft := h.left
  rw [Ne, phase_idle_iff_busyLeft (running_invariants h.running)]
  omega

theorem Transmitting.after_step (h : Transmitting s n m t) (hm : m < s.config.busyCycles n)
    (hrst : (t.inputAt 0).rst = false) : ∃ u, step t = .next u ∧ Transmitting s n (m + 1) u := by
  rw [step_running_eq h.running hrst]
  exact h.consumeInput.after_exec (by simpa using h.busy hm) _

/-! ### Runs -/

/-- Without `rst` the transmission goes on to its end (R101). -/
theorem Transmitting.after_run {j : Nat} (h : Transmitting s n m t) (hn : NoRst j t)
    (hj : m + j ≤ s.config.busyCycles n) : ∃ u, run j t = .next u ∧ Transmitting s n (m + j) u := by
  induction j generalizing m t with
  | zero => exact ⟨t, rfl, h⟩
  | succ j ih =>
    obtain ⟨u, hu, hsu⟩ := h.after_step (by omega) (hn 0 (Nat.zero_lt_succ j))
    obtain ⟨v, hv, hsv⟩ := ih hsu (hn.step hu) (by omega)
    exact ⟨v, (run_succ_next hu).trans hv, by rwa [Nat.add_right_comm] at hsv⟩

/-- A BUSY cycle of it: the state, and the one after, which holds that cycle's outputs. -/
theorem Transmitting.cycle {j : Nat} (h : Transmitting s n m t) (hn : NoRst (j + 1) t)
    (hj : m + j < s.config.busyCycles n) :
    ∃ u v, run j t = .next u ∧ Transmitting s n (m + j) u ∧ run (j + 1) t = .next v ∧ ShowsOutputs u v := by
  obtain ⟨u, hu, hsu⟩ := h.after_run (hn.mono (Nat.le_succ j)) hj.le
  have hrst : (u.inputAt 0).rst = false := by
    rw [run_keeps_input hu]
    exact hn _ (by omega)
  obtain ⟨v, hv, -⟩ := hsu.after_step hj hrst
  exact ⟨u, v, hu, hsu, (run_add hu 1).trans (run_succ_next hv), step_showsOutputs hv hrst⟩

end

end Sys2Proof.Machine

/-! PROOFS. What a whole transmission shows in each of its cycles (41_bit_sequencer.md rules R92 to R97, R101). -/

namespace Sys2Proof.Machine

open Sys2Proof.Safety

/-! ### The length of a transmission and of its slots -/

/-- R94, with the case of a count above 0 first. -/
theorem busyCycles_eq_ite (c : Config) (n : Nat) :
    c.busyCycles n = if 1 ≤ n then 24 * n * c.tbitCyc + c.tresetCyc else 1 + c.tresetCyc := by
  simp [Config.busyCycles, Nat.one_le_iff_ne_zero, ite_not]

theorem busyCycles_of_pos (c : Config) {n : Nat} (hn : 1 ≤ n) :
    c.busyCycles n = 24 * n * c.tbitCyc + c.tresetCyc := by rw [busyCycles_eq_ite, if_pos hn]

/-- A cycle of a slot `k < K` comes before the end of `K` slots. -/
theorem slot_cycle_lt {k K c L : Nat} (hk : k < K) (hc : c < L) : k * L + c < K * L :=
  calc k * L + c < (k + 1) * L := by rw [Nat.add_mul, Nat.one_mul]; exact Nat.add_lt_add_left hc _
    _ ≤ K * L := Nat.mul_le_mul_right L hk

theorem highCycles_zero (c : Config) : highCycles c false = c.t0hCyc := by simp [highCycles]
theorem highCycles_one (c : Config) : highCycles c true = c.t1hCyc := by simp [highCycles]

/-- V1 and V2: a slot has at least one high cycle and at least one low one, whatever its bit. -/
theorem highCycles_bounds {c : Config} (hv : c.Valid) (b : Bool) : 1 ≤ highCycles c b ∧ highCycles c b < c.tbitCyc := by
  obtain ⟨-, -, hV1, -⟩ := id hv
  have h01 := hv.t0hCyc_lt
  have h1b := hv.t1hCyc_lt
  cases b with
  | false =>
    rw [highCycles_zero]
    exact ⟨hV1, h01.trans h1b⟩
  | true =>
    rw [highCycles_one]
    exact ⟨Nat.one_le_of_lt h01, h1b⟩

/-- The bit of slot `k` (R93): bit `23 - k mod 24` of `FB[k div 24]`. -/
def frameBit (fb : FrameBuffer) (k : Nat) : Bool := (FrameBuffer.read fb (k / 24)).getLsbD (23 - k % 24)

/-! ### The state in each part of a transmission -/

section
variable {s t u : State} {n m : Nat}

/-- Cycle `c` of slot `k`. -/
theorem Transmitting.slot {k c : Nat} (h : Transmitting s n (k * s.config.tbitCyc + c) t) (hk : k < 24 * n)
    (hc : c < s.config.tbitCyc) :
    t.phase = .bits ∧ t.led.toNat = k / 24 ∧ t.bit.toNat = 23 - k % 24 ∧ t.cyc.toNat = c ∧
      sentBit t = frameBit s.fb k := by
  have hi := running_invariants h.running
  have hleft := h.left
  have hlt := slot_cycle_lt hk hc
  rw [busyCycles_of_pos s.config (by omega)] at hleft
  have hp : t.phase = .bits := by
    rw [phase_bits_iff_busyLeft hi, h.config]
    omega
  rw [← h.config, ← h.cnt] at hleft
  obtain ⟨hled, hbit, hcyc⟩ := position_of_busyLeft hi hp (by rw [h.cnt]; omega) (hc.trans_eq (by rw [h.config])) hleft
  refine ⟨hp, hled, hbit, hcyc, ?_⟩
  rw [sentBit, h.latched hp, hled, hbit, h.fb, frameBit]

/-- Cycle `j` of the reset pulse, which ends the transmission. -/
theorem Transmitting.reset {j : Nat} (h : Transmitting s n m t) (hj : j < s.config.tresetCyc)
    (hm : m + s.config.tresetCyc = s.config.busyCycles n + j) : t.phase = .reset ∧ t.rcnt.toNat = j := by
  have hi := running_invariants h.running
  have hleft := h.left
  have hp : t.phase = .reset := by
    rw [phase_reset_iff_busyLeft hi, h.config]
    omega
  obtain ⟨-, -, -, -, h5, -⟩ := hi
  rw [State.busyLeft_reset hp] at hleft
  rw [State.I5] at h5
  rw [h.config] at h5 hleft
  exact ⟨hp, by omega⟩

/-- The first IDLE cycle. -/
theorem Transmitting.ends (h : Transmitting s n (s.config.busyCycles n) t) : Ended t := by
  have hleft := h.left
  have hp : t.phase = .idle := by
    rw [phase_idle_iff_busyLeft (running_invariants h.running)]
    omega
  exact ⟨hp, h.ended hp⟩

/-! ### The outputs in each part of a transmission -/

theorem Transmitting.pinOe (h : Transmitting s n m t) (hu : ShowsOutputs t u) : u.out.pinOe = true := by
  obtain ⟨r, hr⟩ := hu
  rw [hr, outputs_pinOe, h.oe]

/-- R92: in cycle `c` of slot `k` the line is high if `c` is below the high time of the slot's bit. -/
theorem Transmitting.slot_pinOut {k c : Nat} (h : Transmitting s n (k * s.config.tbitCyc + c) t) (hk : k < 24 * n)
    (hc : c < s.config.tbitCyc) (hu : ShowsOutputs t u) :
    u.out.pinOut = decide (c < highCycles s.config (frameBit s.fb k)) := by
  obtain ⟨hp, -, -, hcyc, hbit⟩ := h.slot hk hc
  obtain ⟨r, hr⟩ := hu
  have hn : 0 < t.cnt.toNat := by
    rw [h.cnt]
    omega
  rw [hr, outputs_pinOut, (slotActive_iff t).mpr ⟨hp, hn⟩, hiWin, hcyc, hbit, h.config, Bool.true_and]

/-- R88: outside BITS the line is low. -/
theorem pinOut_of_not_bits (hp : t.phase ≠ .bits) (hu : ShowsOutputs t u) : u.out.pinOut = false := by
  obtain ⟨r, hr⟩ := hu
  rw [hr, outputs_pinOut, slotActive_of_not_bits hp, Bool.false_and]

/-- I7: `irq_inhibit` is 1 in the cycles of BITS. -/
theorem irqInhibit_of_running (h : Running t) (hu : ShowsOutputs t u) :
    u.out.irqInhibit = decide (t.phase = .bits) := by
  obtain ⟨r, hr⟩ := hu
  obtain ⟨-, -, -, -, -, -, h7, -⟩ := running_invariants h
  rw [hr, outputs_irqInhibit, Bool.eq_iff_iff, decide_eq_true_iff]
  exact h7

/-! ### The cycles after an accepted TRANSMIT -/

section
variable {count : BitVec 16} (h : Accepts count s)
include h

/-- The state in cycle `t0 + 1 + m`. -/
theorem accepts_run (hn : NoRst (1 + m) s) (hm : m ≤ s.config.busyCycles count.toNat) :
    ∃ t, run (1 + m) s = .next t ∧ Transmitting s count.toNat m t := by
  obtain ⟨t, ht, hst⟩ := accepts_step h
  rw [Nat.add_comm] at hn ⊢
  obtain ⟨u, hu, hsu⟩ := hst.after_run (hn.step ht) (by omega)
  exact ⟨u, (run_succ_next ht).trans hu, by rwa [Nat.zero_add] at hsu⟩

/-- The state in cycle `t0 + 1 + m` and the one after it, which holds that cycle's outputs. -/
theorem accepts_cycle (hn : NoRst (2 + m) s) (hm : m < s.config.busyCycles count.toNat) :
    ∃ t u, run (1 + m) s = .next t ∧ Transmitting s count.toNat m t ∧ run (2 + m) s = .next u ∧ ShowsOutputs t u := by
  obtain ⟨t, ht, hst⟩ := accepts_step h
  rw [Nat.add_comm] at hn
  obtain ⟨u, v, hu, hsu, hv, hout⟩ := hst.cycle (hn.step ht) (by omega)
  rw [Nat.zero_add] at hsu
  refine ⟨u, v, ?_, hsu, ?_, hout⟩
  · rw [Nat.add_comm, run_succ_next ht, hu]
  · rw [Nat.add_comm, run_succ_next ht, hv]

end

end

/-! ### The statements -/

/-- Settles O47: the three parts of a transmission, each read off the number of cycles gone (`accepts_run`). -/
theorem transmissionTimeline : Obligations.TransmissionTimeline := by
  intro s count h hpos hn
  have hb := busyCycles_of_pos s.config hpos
  refine ⟨fun k c hk hc => ?_, fun j hj => ?_, ?_⟩
  · have hlt := slot_cycle_lt hk hc
    obtain ⟨t, ht, hst⟩ := accepts_run h (m := k * s.config.tbitCyc + c) (hn.mono (by omega)) (by omega)
    exact ⟨t, by rwa [Nat.add_assoc], hst.slot hk hc⟩
  · obtain ⟨t, ht, hst⟩ := accepts_run h (m := 24 * count.toNat * s.config.tbitCyc + j) (hn.mono (by omega))
      (by omega)
    exact ⟨t, by rwa [Nat.add_assoc], hst.reset hj (by omega)⟩
  · rw [← hb] at hn
    obtain ⟨t, ht, hst⟩ := accepts_run h hn (Nat.le_refl _)
    exact ⟨t, by rwa [Nat.add_assoc, ← hb], hst.ends⟩

/-- Settles O48: the outputs of the cycles that O47 places in the slots. -/
theorem slotWaveform : Obligations.SlotWaveform := by
  intro s count h hpos hn k hk
  have hb := busyCycles_of_pos s.config hpos
  obtain ⟨hhigh, hlow⟩ := highCycles_bounds (running_valid h.1) (frameBit s.fb k)
  refine ⟨hhigh, hlow, fun c hc => ?_⟩
  have hlt := slot_cycle_lt hk hc
  obtain ⟨t, u, -, hst, hu, hout⟩ :=
    accepts_cycle h (m := k * s.config.tbitCyc + c) (hn.mono (by omega)) (by omega)
  exact ⟨u, by rwa [Nat.add_assoc], hst.pinOe hout, hst.slot_pinOut hk hc hout⟩

/-- Settles O49: `irq_inhibit` follows BITS (I7), and a cycle is one of BITS if more than the reset pulse is left. -/
theorem interruptInhibitSpansSlots : Obligations.InterruptInhibitSpansSlots := by
  intro s count h hpos hn m hm
  have hb := busyCycles_of_pos s.config hpos
  cases m with
  | zero =>
    obtain ⟨hr, hrst, -, hp, -⟩ := id h
    obtain ⟨t, ht, -⟩ := accepts_step h
    refine ⟨t, run_succ_next ht, ?_⟩
    simp [irqInhibit_of_running hr (step_showsOutputs ht hrst), hp]
  | succ m =>
    obtain ⟨t, u, -, hst, hu, hout⟩ := accepts_cycle h (m := m) (hn.mono (by omega)) (by omega)
    refine ⟨u, by rwa [Nat.add_assoc, Nat.add_comm], ?_⟩
    have hleft := hst.left
    rw [irqInhibit_of_running hst.running hout, decide_eq_decide,
      phase_bits_iff_busyLeft (running_invariants hst.running), hst.config]
    omega

/-- Settles O50: the cycles left run out exactly at the end. -/
theorem busyCyclesOfTransmission : Obligations.BusyCyclesOfTransmission := by
  intro s count h b hn
  have hb : s.config.busyCycles count.toNat = b := busyCycles_eq_ite s.config count.toNat
  rw [← hb] at hn ⊢
  refine ⟨fun m h1 hm => ?_, ?_⟩
  · obtain ⟨m, rfl⟩ := Nat.exists_eq_add_of_le h1
    obtain ⟨t, ht, hst⟩ := accepts_run h (m := m) (hn.mono (by omega)) (by omega)
    exact ⟨t, ht, hst.busy (by omega)⟩
  · obtain ⟨t, ht, hst⟩ := accepts_run h hn (Nat.le_refl _)
    exact ⟨t, ht, hst.ends.1⟩

/-- Settles O51: `waitIdle_ends` counts the reads from the cycles left after acceptance. -/
theorem transmissionEndsAndWaitIdleEnds : Obligations.TransmissionEndsAndWaitIdleEnds := by
  intro s count h
  refine ⟨fun hn => ?_, fun t ht => ?_⟩
  · obtain ⟨t, ht, hst⟩ := accepts_run h hn (Nat.le_refl _)
    refine ⟨t, ht, hst.ends, fun m h1 hm => ?_⟩
    obtain ⟨m, rfl⟩ := Nat.exists_eq_add_of_le h1
    obtain ⟨u, hu, hsu⟩ := accepts_run h (m := m) (hn.mono (by omega)) (by omega)
    exact ⟨u, hu, hsu.busy (by omega)⟩
  · obtain ⟨t', ht', hst⟩ := accepts_step h
    obtain rfl : t' = t := Host.Outcome.next.inj (ht'.symm.trans ht)
    obtain ⟨u, hu, hend, -⟩ := waitIdle_ends hst.running hst.ended hst.left (Nat.le_refl _)
    exact ⟨u, _, hu, Nat.le_refl _, hend⟩

/-- Settles O52: `BUSYCYC(0)` is one cycle more than the reset pulse. -/
theorem emptyTransmissionStillResets : Obligations.EmptyTransmissionStillResets := by
  intro s h hn
  have hb : s.config.busyCycles (0#16).toNat = 1 + s.config.tresetCyc := rfl
  refine ⟨?_, fun m h2 hm => ?_, ?_⟩
  · obtain ⟨t, u, ht, hst, hu, hout⟩ := accepts_cycle h (m := 0) (hn.mono (by omega)) (by omega)
    have hleft := hst.left
    have hp : t.phase = .bits := by
      rw [phase_bits_iff_busyLeft (running_invariants hst.running), hst.config]
      omega
    refine ⟨t, u, ht, hp, hu, by simp [irqInhibit_of_running hst.running hout, hp], ?_⟩
    obtain ⟨r, hr⟩ := hout
    rw [hr, outputs_pinOut, slotActive_of_empty hst.cnt, Bool.false_and]
  · obtain ⟨j, rfl⟩ := Nat.exists_eq_add_of_le h2
    obtain ⟨t, u, ht, hst, hu, hout⟩ := accepts_cycle h (m := 1 + j) (hn.mono (by omega)) (by omega)
    obtain ⟨hp, -⟩ := hst.reset (j := j) (by omega) (by omega)
    refine ⟨t, u, by rwa [← Nat.add_assoc] at ht, hp, ?_, ?_, pinOut_of_not_bits (by simp [hp]) hout⟩
    · rw [Nat.add_assoc, Nat.add_comm j, hu]
    · simp [irqInhibit_of_running hst.running hout, hp]
  · rw [show 2 + s.config.tresetCyc = 1 + s.config.busyCycles (0#16).toNat by omega] at hn ⊢
    obtain ⟨t, ht, hst⟩ := accepts_run h hn (Nat.le_refl _)
    exact ⟨t, ht, hst.ends⟩

end Sys2Proof.Machine

/-! PROOFS. What the receiver's oracle reads from a whole transmission (41_bit_sequencer.md rules R92, R98). -/

namespace Sys2Proof.Machine

open Sys2Proof.Safety

/-! ### The oracle on runs of equal levels -/

/-- A high run is only counted. -/
theorem receive_high (c : Config) (k : Nat) : ∀ (high low : Nat) (rest : List Bool), 0 < k →
    receive c high low (List.replicate k true ++ rest) = receive c (high + k) 0 rest := by
  induction k with
  | zero => exact fun _ _ _ hk => absurd hk (Nat.lt_irrefl 0)
  | succ k ih =>
    intro high low rest _
    rw [List.replicate_succ, List.cons_append, receive]
    obtain rfl | hk := Nat.eq_zero_or_pos k
    · simp
    · rw [ih _ _ _ hk, Nat.add_assoc, Nat.add_comm 1]

/-- A low run ends a frame where it reaches `TRESET_CYC`, and nowhere else. -/
theorem receive_low (c : Config) (k : Nat) : ∀ (low : Nat) (rest : List Bool),
    receive c 0 low (List.replicate k false ++ rest) =
      (if low < c.tresetCyc ∧ c.tresetCyc ≤ low + k then [.frameEnd] else []) ++ receive c 0 (low + k) rest := by
  induction k with
  | zero =>
    intro low rest
    rw [if_neg (by omega)]
    rfl
  | succ k ih =>
    intro low rest
    rw [List.replicate_succ, List.cons_append, receive, ih (low + 1) rest, if_pos rfl, List.nil_append,
      ← List.append_assoc, Nat.add_right_comm, Nat.add_assoc low k]
    congr 1
    by_cases hend : low + 1 = c.tresetCyc
    · simp [hend, show low < c.tresetCyc ∧ c.tresetCyc ≤ low + (k + 1) by omega]
    · rw [if_neg hend, List.nil_append]
      exact if_congr (by omega) rfl rfl

/-- The first low level after a high run says the run's bit; what follows is read as after one low cycle more. -/
theorem receive_fall (c : Config) {high : Nat} (hh : 0 < high) (low : Nat) (rest : List Bool) :
    receive c high low (false :: rest) = .bit (bitOfRun c high) :: receive c 0 low (false :: rest) := by
  rw [receive, if_neg hh.ne', receive, if_pos rfl, List.nil_append, List.append_assoc, List.singleton_append]

/-! ### The oracle on slots -/

/-- R92: the levels of a slot for the bit `b`. -/
def slotLevels (c : Config) (b : Bool) : List Bool :=
  List.replicate (highCycles c b) true ++ List.replicate (c.tbitCyc - highCycles c b) false

/-- V4: a high run of `T0H_CYC` cycles is below the threshold. -/
theorem bitOfRun_t0hCyc {c : Config} (hv : c.Valid) : bitOfRun c c.t0hCyc = false := by
  simpa [bitOfRun] using hv.hasV4.1

/-- V4: one of `T1H_CYC` cycles is not. -/
theorem bitOfRun_t1hCyc {c : Config} (hv : c.Valid) : bitOfRun c c.t1hCyc = true := by
  simpa [bitOfRun] using hv.hasV4.2

/-- A high run of `TH(b)` cycles is read as `b`. -/
theorem bitOfRun_highCycles {c : Config} (hv : c.Valid) (b : Bool) : bitOfRun c (highCycles c b) = b := by
  cases b with
  | false => rw [highCycles_zero, bitOfRun_t0hCyc hv]
  | true => rw [highCycles_one, bitOfRun_t1hCyc hv]

/-- The reset pulse is longer than a slot: 50000 ns against at most 1365 ns. -/
theorem tbitCyc_lt_tresetCyc {c : Config} (hv : c.Valid) : c.tbitCyc < c.tresetCyc := by
  have hf := hv.fClkHz_pos
  have hslot := hv.slot_bounds.2
  have hreset : 50000 * c.fClkHz ≤ c.tresetCyc * 10 ^ 9 := (Config.ceilCycles_least Config.tresetNs c.fClkHz).1
  omega

/-- A slot gives its bit, and leaves a low run too short to end a frame. -/
theorem receive_slot {c : Config} (hv : c.Valid) (b : Bool) (low : Nat) (rest : List Bool) :
    receive c 0 low (slotLevels c b ++ rest) = .bit b :: receive c 0 (c.tbitCyc - highCycles c b) rest := by
  obtain ⟨hhigh, hlow⟩ := highCycles_bounds hv b
  have hreset := tbitCyc_lt_tresetCyc hv
  obtain ⟨d, hd⟩ : ∃ d, c.tbitCyc - highCycles c b = d + 1 := ⟨c.tbitCyc - highCycles c b - 1, by omega⟩
  rw [slotLevels, List.append_assoc, receive_high c _ _ _ _ hhigh, Nat.zero_add, hd, List.replicate_succ,
    List.cons_append, receive_fall c hhigh, bitOfRun_highCycles hv, ← List.cons_append, ← List.replicate_succ,
    receive_low, if_neg (by omega), List.nil_append, Nat.zero_add]

/-- Slots and then a reset pulse give the slots' bits and one end of a frame (R98). -/
theorem receive_frame {c : Config} (hv : c.Valid) (bits : List Bool) : ∀ low, low < c.tresetCyc →
    receive c 0 low (bits.flatMap (slotLevels c) ++ List.replicate c.tresetCyc false) =
      bits.map Received.bit ++ [.frameEnd] := by
  induction bits with
  | nil =>
    intro low hlow
    have h := receive_low c c.tresetCyc low []
    rw [List.append_nil, if_pos (by omega)] at h
    rw [List.flatMap_nil, List.nil_append, h]
    rfl
  | cons b bits ih =>
    intro low _
    have hreset := tbitCyc_lt_tresetCyc hv
    rw [List.flatMap_cons, List.append_assoc, receive_slot hv, ih _ (by omega)]
    rfl

/-! ### The trace of a transmission -/

/-- The levels of a slot, by its cycles. -/
theorem slotLevels_eq_map {c : Config} (hv : c.Valid) (b : Bool) :
    (List.range c.tbitCyc).map (fun i => decide (i < highCycles c b)) = slotLevels c b := by
  have hlow := (highCycles_bounds hv b).2
  refine List.ext_getElem (by simp [slotLevels]; omega) fun i h1 h2 => ?_
  simp [slotLevels, List.getElem_append]

section
variable {s t : State} {n : Nat}

/-- Slot `k` shows the levels of its bit. -/
theorem Transmitting.trace_slot {k : Nat} (h : Transmitting s n (k * s.config.tbitCyc) t) (hv : s.config.Valid)
    (hk : k < 24 * n) (hn : NoRst s.config.tbitCyc t) :
    (trace s.config.tbitCyc t).map Outputs.pinOut = slotLevels s.config (frameBit s.fb k) := by
  rw [← slotLevels_eq_map hv]
  refine trace_map _ fun i hi => ?_
  have hlt := slot_cycle_lt hk hi
  have hb := busyCycles_of_pos s.config (n := n) (by omega)
  obtain ⟨u, v, -, hsu, hv, hout⟩ := h.cycle (hn.mono hi) (by omega)
  exact ⟨v, hv, hsu.slot_pinOut hk hi hout⟩

/-- The first `j` slots show the levels of their bits, in order. -/
theorem Transmitting.trace_slots {j : Nat} (h : Transmitting s n 0 t) (hv : s.config.Valid) (hj : j ≤ 24 * n)
    (hn : NoRst (j * s.config.tbitCyc) t) :
    (trace (j * s.config.tbitCyc) t).map Outputs.pinOut =
      (List.range j).flatMap (fun k => slotLevels s.config (frameBit s.fb k)) := by
  induction j with
  | zero => simp
  | succ j ih =>
    rw [Nat.succ_mul] at hn ⊢
    have hlt := slot_cycle_lt hj hv.tbitCyc_pos
    have hb := busyCycles_of_pos s.config (n := n) (by omega)
    have hfront := hn.mono (Nat.le_add_right _ _)
    obtain ⟨u, hu, hsu⟩ := h.after_run hfront (by omega)
    rw [Nat.zero_add] at hsu
    rw [trace_add hu, List.map_append, ih (by omega) hfront, hsu.trace_slot hv hj (hn.run hu),
      List.range_succ, List.flatMap_append, List.flatMap_singleton]

/-- The reset pulse is low throughout. -/
theorem Transmitting.trace_reset {m : Nat} (h : Transmitting s n m t)
    (hm : m + s.config.tresetCyc = s.config.busyCycles n) (hn : NoRst s.config.tresetCyc t) :
    (trace s.config.tresetCyc t).map Outputs.pinOut = List.replicate s.config.tresetCyc false := by
  rw [trace_map _ (f := fun _ => false) fun i hi => ?_, List.map_const', List.length_range]
  obtain ⟨u, v, -, hsu, hv, hout⟩ := h.cycle (hn.mono hi) (by omega)
  obtain ⟨hp, -⟩ := hsu.reset hi (by omega)
  exact ⟨v, hv, pinOut_of_not_bits (by simp [hp]) hout⟩

/-- All the BUSY cycles drive the pin. -/
theorem Transmitting.trace_pinOe {k : Nat} (h : Transmitting s n 0 t) (hk : k ≤ s.config.busyCycles n)
    (hn : NoRst k t) : (trace k t).map Outputs.pinOe = List.replicate k true := by
  rw [trace_map _ (f := fun _ => true) fun i hi => ?_, List.map_const', List.length_range]
  obtain ⟨u, v, -, hsu, hv, hout⟩ := h.cycle (hn.mono hi) (by omega)
  exact ⟨v, hv, hsu.pinOe hout⟩

/-- R52, R93: the frame's bits are those of its slots, in order. -/
theorem frameBits_eq_map (fb : FrameBuffer) (n : Nat) : frameBits fb n = (List.range (24 * n)).map (frameBit fb) := by
  induction n with
  | zero => rfl
  | succ n ih =>
    have hword : wordBits (FrameBuffer.read fb n) = (List.range 24).map (frameBit fb ∘ (24 * n + ·)) := by
      refine List.map_congr_left fun k hk => ?_
      rw [List.mem_range] at hk
      rw [Function.comp_apply, frameBit, show (24 * n + k) / 24 = n by omega, show (24 * n + k) % 24 = k by omega]
    rw [frameBits] at ih
    rw [frameBits, List.range_succ, List.flatMap_append, ih, List.flatMap_singleton, hword, Nat.mul_succ,
      List.range_add, List.map_append, List.map_map]

/-- The levels of a whole transmission: its slots, then its reset pulse. -/
theorem Transmitting.trace_levels (h : Transmitting s n 0 t) (hv : s.config.Valid) (hpos : 1 ≤ n)
    (hn : NoRst (s.config.busyCycles n) t) :
    (trace (s.config.busyCycles n) t).map Outputs.pinOut =
      (frameBits s.fb n).flatMap (slotLevels s.config) ++ List.replicate s.config.tresetCyc false := by
  have hb := busyCycles_of_pos s.config hpos
  have hslots : NoRst (24 * n * s.config.tbitCyc) t := hn.mono (by omega)
  obtain ⟨u, hu, hsu⟩ := h.after_run hslots (by omega)
  have hreset := hsu.trace_reset (by omega) ((hb ▸ hn : NoRst _ t).run hu)
  rw [hb, trace_add hu, List.map_append, h.trace_slots hv (Nat.le_refl _) hslots, hreset, frameBits_eq_map,
    List.flatMap_map]

end

/-- Settles O53: the levels are the slots of the frame's bits and then the reset pulse, which `receive_frame` reads. -/
theorem receiverDecodesFrame : Obligations.ReceiverDecodesFrame := by
  intro s count h hpos b hn outs
  have hv := running_valid h.1
  have hb : s.config.busyCycles count.toNat = b := busyCycles_of_pos s.config hpos
  obtain ⟨t, ht, hst⟩ := accepts_step h
  have houts : outs = trace b t := by
    show (trace (1 + b) s).drop 1 = _
    rw [Nat.add_comm, trace_succ_next ht, List.drop_one, List.tail_cons]
  rw [Nat.add_comm] at hn
  have hnt := hn.step ht
  have hoe := hst.trace_pinOe hb.ge hnt
  rw [← houts] at hoe
  have hlevels := hst.trace_levels hv hpos (hb ▸ hnt)
  rw [hb, ← houts] at hlevels
  refine ⟨?_, fun o ho => ?_, ?_⟩
  · rw [← List.length_map (f := Outputs.pinOe), hoe, List.length_replicate]
  · have hmem := List.mem_map_of_mem (f := Outputs.pinOe) ho
    rw [hoe] at hmem
    exact List.eq_of_mem_replicate hmem
  · rw [hlevels]
    exact receive_frame hv _ 0 hv.tresetCyc_pos

end Sys2Proof.Machine

/-! PROOFS. Reads and writes of the registers and of the frame buffer (42_register_access.md rules R105 to R127): the
fields of the words read (10_state.md rules R32 to R36), what an access does in each of its cases, and what it leaves. -/

namespace Sys2Proof.Machine

/-! ### The fields of a word read -/

/-- A zero-extended value stands in the low bits of the word, with zeros above it. -/
theorem setWidth_fields {n : Nat} (x : BitVec n) (m : Nat) :
    (x.setWidth (n + m)).extractLsb' 0 n = x ∧ (x.setWidth (n + m)).extractLsb' n m = 0#m := by
  constructor
  · rw [BitVec.extractLsb'_setWidth_of_le (by omega), BitVec.extractLsb'_eq_self]
  · apply BitVec.eq_of_getLsbD_eq
    simp

/-- A field of one bit is that bit. -/
theorem getLsbD_of_extractLsb'_one {n k : Nat} {w : BitVec n} {b : Bool} (h : w.extractLsb' k 1 = BitVec.ofBool b) :
    w.getLsbD k = b := by
  have hbit := congrArg (fun v => v.getLsbD 0) h
  simpa using hbit

/-- The five parts of a word put together from five, from the lowest up. -/
theorem append_five_parts {a b c d e : Nat} (p : BitVec a) (q : BitVec b) (r : BitVec c) (x : BitVec d) (y : BitVec e) :
    (p ++ q ++ r ++ x ++ y).extractLsb' 0 e = y ∧ (p ++ q ++ r ++ x ++ y).extractLsb' e d = x ∧
      (p ++ q ++ r ++ x ++ y).extractLsb' (e + d) c = r ∧ (p ++ q ++ r ++ x ++ y).extractLsb' (e + d + c) b = q ∧
      (p ++ q ++ r ++ x ++ y).extractLsb' (e + d + c + b) a = p := by
  simp [BitVec.extractLsb'_append_eq_of_le, BitVec.extractLsb'_append_eq_right, Nat.add_assoc]

/-- A field inside a part of a word is a field of the word. -/
theorem extractLsb'_of_part {n a b k i : Nat} {w : BitVec n} {p : BitVec a} {f : BitVec b} (hp : w.extractLsb' k a = p)
    (hf : p.extractLsb' i b = f) (hle : i + b ≤ a) : w.extractLsb' (k + i) b = f := by
  rw [← hf, ← hp]
  apply BitVec.eq_of_getLsbD_eq
  intro j hj
  have hij : i + j < a := by omega
  simp [hij, Nat.add_assoc]

/-- R32. -/
theorem ctrlWord_fields (s : State) :
    (ctrlWord s).getLsbD 0 = s.oe ∧ (ctrlWord s).extractLsb' 1 31 = 0#31 := by
  obtain ⟨hoe, hrest⟩ := setWidth_fields (BitVec.ofBool s.oe) 31
  exact ⟨getLsbD_of_extractLsb'_one hoe, hrest⟩

/-- R34: the four lowest fields, and the five in the part above them. -/
theorem statusWord_fields (s : State) :
    (statusWord s).getLsbD 0 = busy s ∧ (statusWord s).extractLsb' 1 2 = s.phase.code ∧
      (statusWord s).getLsbD 3 = s.done ∧ (statusWord s).getLsbD 4 = s.inh ∧ (statusWord s).extractLsb' 5 3 = 0#3 ∧
      (statusWord s).extractLsb' 8 6 = s.err ∧ (statusWord s).extractLsb' 14 2 = 0#2 ∧
      (statusWord s).extractLsb' 16 3 = s.firstErr ∧ (statusWord s).extractLsb' 19 13 = 0#13 := by
  have low : (statusWord s).extractLsb' 0 1 = BitVec.ofBool (busy s) ∧
      (statusWord s).extractLsb' 1 2 = s.phase.code ∧ (statusWord s).extractLsb' 3 1 = BitVec.ofBool s.done ∧
      (statusWord s).extractLsb' 4 1 = BitVec.ofBool s.inh ∧
      (statusWord s).extractLsb' 5 27 = 0#13 ++ s.firstErr ++ 0#2 ++ s.err ++ 0#3 := append_five_parts _ _ _ _ _
  obtain ⟨hbusy, hphase, hdone, hinh, hhigh⟩ := low
  obtain ⟨h0, herr, h9, hfirst, h14⟩ := append_five_parts 0#13 s.firstErr 0#2 s.err 0#3
  exact ⟨getLsbD_of_extractLsb'_one hbusy, hphase, getLsbD_of_extractLsb'_one hdone, getLsbD_of_extractLsb'_one hinh,
    extractLsb'_of_part hhigh h0 (by decide), extractLsb'_of_part hhigh herr (by decide),
    extractLsb'_of_part hhigh h9 (by decide), extractLsb'_of_part hhigh hfirst (by decide),
    extractLsb'_of_part hhigh h14 (by decide)⟩

/-- R35. -/
theorem xcountWord_fields (s : State) :
    (xcountWord s).extractLsb' 0 11 = s.cnt ∧ (xcountWord s).extractLsb' 11 21 = 0#21 :=
  setWidth_fields s.cnt 21

/-- R36. -/
theorem posWord_fields (s : State) :
    (posWord s).extractLsb' 0 11 = s.led ∧ (posWord s).extractLsb' 11 5 = 0#5 ∧
      (posWord s).extractLsb' 16 5 = s.bit ∧ (posWord s).extractLsb' 21 3 = 0#3 ∧
      (posWord s).extractLsb' 24 8 = s.cyc :=
  append_five_parts _ _ _ _ _

/-- R125. -/
theorem colorWord_fields (v : Color) : (colorWord v).extractLsb' 0 24 = v ∧ (colorWord v).extractLsb' 24 8 = 0#8 :=
  setWidth_fields v 8

/-! ### The cases of an access -/

/-- R125, outside the buffer. -/
theorem exec_rdFb_unmapped {s : State} {index : BitVec 10} (hi : s.config.nLeds ≤ indexOperand index) (d : Word) :
    exec (.rdFb index d) s = errorCycle .bus s := by
  simp [exec, execRdFb, indexMapped, Nat.not_lt.mpr hi]

/-- R126, outside the buffer, in every phase (R131). -/
theorem exec_wrFb_unmapped {s : State} {index : BitVec 10} (hi : s.config.nLeds ≤ indexOperand index) (d : Word) :
    exec (.wrFb index d) s = errorCycle .bus s := by
  simp [exec, execWrFb, indexMapped, Nat.not_lt.mpr hi]

/-- R126, inside the buffer while BUSY. -/
theorem exec_wrFb_busy {s : State} {index : BitVec 10} (hp : s.phase ≠ .idle)
    (hi : indexOperand index < s.config.nLeds) (d : Word) : exec (.wrFb index d) s = errorCycle .fbwr s := by
  simp [exec, execWrFb, indexMapped, hi, hp]

/-- R109, while BUSY. -/
theorem exec_wrCtrl_busy {s : State} (hp : s.phase ≠ .idle) (d : Word) :
    exec (.wrCtrl d) s = errorCycle .busy s := by
  simp [exec, execWrCtrl, hp]

/-- R105, R129: a cycle of any transaction but the three that can write is the sequencer's step, with an error record
and read data. -/
theorem exec_of_no_write {i : Instr} {s t : State} (h : exec i s = .next t) (hctrl : ∀ d, i ≠ .wrCtrl d)
    (htransmit : ∀ count, i ≠ .transmit count) (hfb : ∀ index d, i ≠ .wrFb index d) :
    ∃ e f r, t = { seq s with err := e, firstErr := f, out := outputs s false r } := by
  rcases exec_cases h with ⟨r, rfl⟩ | ⟨e, rfl⟩ | ⟨d, hi, -⟩ | ⟨count, hi, -⟩ | ⟨index, d, hi, -⟩
  · exact ⟨_, _, r, rfl⟩
  · exact ⟨_, _, 0#32, rfl⟩
  · exact absurd hi (hctrl d)
  · exact absurd hi (htransmit count)
  · exact absurd hi (hfb index d)

/-- A cycle that writes nothing of its own leaves the error record. -/
theorem quietCycle_keeps_record {s t : State} {r : Word} (h : quietCycle s r = .next t) :
    t.err = s.err ∧ t.firstErr = s.firstErr := by
  rw [quietCycle_next.mp h]
  exact ⟨seq_err s, seq_firstErr s⟩

/-! ### The obligations -/

/-- Settles O34: R126's three cases, of which the accepted one writes one position of a buffer that holds it. -/
theorem frameBufferWriteStoresItsWord : Obligations.FrameBufferWriteStoresItsWord := by
  intro s index d hfb
  refine ⟨fun hi hp => ?_, fun hi hp => ?_, fun hi => ?_⟩
  · have hlt : indexOperand index < s.fb.length := hi.trans_eq ((FrameBuffer.wf_iff _ _).mp hfb).symm
    exact ⟨_, exec_wrFb_accepted hp hi d, FrameBuffer.write_length _ _ _, FrameBuffer.read_write_same hlt _,
      fun a ha => FrameBuffer.read_write_other _ ha.symm _⟩
  · exact (exec_wrFb_busy hp hi d).trans (errorCycle_eq .fbwr s)
  · exact (exec_wrFb_unmapped hi d).trans (errorCycle_eq .bus s)

/-- Settles O36: none of the accesses is one of the three that can write, and each of the legal ones is a cycle that
writes nothing of its own. -/
theorem readsAndRefusedAccessesFrame : Obligations.ReadsAndRefusedAccessesFrame := by
  intro s t acc a index d
  refine ⟨fun i hi h => ?_, fun i hi h => ?_⟩
  · obtain ⟨e, f, r, rfl⟩ := exec_of_no_write h (fun _ he => by simp [he] at hi) (fun _ he => by simp [he] at hi)
      (fun _ _ he => by simp [he] at hi)
    simp
  · simp only [List.mem_cons, List.not_mem_nil, or_false] at hi
    obtain rfl | rfl | rfl | rfl | rfl | rfl | rfl | rfl | rfl | rfl | rfl := hi <;> exact quietCycle_keeps_record h

/-- Settles O20: the read is a quiet cycle with the word STATUS, whose error bit of code `k` is bit `k - 1` of `err`. -/
theorem statusReadGivesItsFields : Obligations.StatusReadGivesItsFields := by
  intro s d
  obtain ⟨hbusy, hphase, hdone, hinh, h5, herr, h14, hfirst, h19⟩ := statusWord_fields s
  refine ⟨statusWord s, quietCycle_eq s _, hbusy, hphase, hdone, hinh, h5, fun k h1 h6 => ?_, h14, hfirst, h19⟩
  have hk : k - 1 < 6 := by omega
  have hbit : 8 + (k - 1) = 7 + k := by omega
  rw [← herr, BitVec.getLsbD_extractLsb', hbit]
  simp [hk]

/-- Settles O21: three quiet cycles, with the words CTRL, XCOUNT and POS. -/
theorem stateRegisterReadsGiveTheirFields : Obligations.StateRegisterReadsGiveTheirFields := fun s _ =>
  ⟨⟨_, quietCycle_eq s (ctrlWord s), ctrlWord_fields s⟩, ⟨_, quietCycle_eq s (xcountWord s), xcountWord_fields s⟩,
    ⟨_, quietCycle_eq s (posWord s), posWord_fields s⟩⟩

/-- Settles O23: R125's two cases. -/
theorem frameBufferReadGivesItsWord : Obligations.FrameBufferReadGivesItsWord := fun s _ d =>
  ⟨fun hi => ⟨_, (exec_rdFb_mapped hi d).trans (quietCycle_eq s _), colorWord_fields _⟩,
    fun hi => (exec_rdFb_unmapped hi d).trans (errorCycle_eq .bus s)⟩

/-- Settles O24: each of the accesses is an error cycle with ERR_BUS. -/
theorem illegalAccessesRaiseBusError : Obligations.IllegalAccessesRaiseBusError := by
  intro s acc a d i hi
  simp only [List.mem_cons, List.not_mem_nil, or_false] at hi
  obtain rfl | rfl | rfl | rfl | rfl | rfl | rfl | rfl | rfl | rfl := hi <;> exact errorCycle_eq .bus s

/-- Settles O31: R109's two cases. -/
theorem ctrlWriteSetsOutputEnable : Obligations.CtrlWriteSetsOutputEnable := fun s d =>
  ⟨fun hp => exec_wrCtrl_idle hp d, fun hp => (exec_wrCtrl_busy hp d).trans (errorCycle_eq .busy s)⟩

end Sys2Proof.Machine

/-! PROOFS. The errors (60_exceptions.md rules R128 to R131) and the gating of interrupts (R134, R135): a cycle either
raises the error that `errorCode` names, and then is that error's cycle, or makes its transaction's own writes. -/

namespace Sys2Proof.Machine

open Sys2Proof.Safety

/-! ### A cycle by the error it raises -/

/-- A transaction's own writes where it raises no error, over the sequencer's step `s1` (R76, R109, R126). -/
def ownWrites (s s1 : State) : Instr → State
  | .wrCtrl d => { s1 with oe := oeOperand d }
  | .transmit count => accept (countOperand count) s s1
  | .wrFb index d => { s1 with fb := FrameBuffer.write s1.fb (indexOperand index) (colorOperand d) }
  | _ => s1

@[simp] theorem ownWrites_err (s s1 : State) (i : Instr) : (ownWrites s s1 i).err = s1.err := by cases i <;> rfl

@[simp] theorem ownWrites_firstErr (s s1 : State) (i : Instr) : (ownWrites s s1 i).firstErr = s1.firstErr := by
  cases i <;> rfl

/-- R128, R129, R131: a cycle raises the error of `errorCode` and does nothing else, or raises none and makes its own
writes. -/
theorem exec_error_or_writes (i : Instr) (s : State) :
    (∃ c : ErrCode, errorCode s i = some c.code.toNat ∧ exec i s = errorCycle c s) ∨
      (errorCode s i = none ∧ ∃ r, exec i s = endCycle s r (ownWrites s (seq s) i)) := by
  cases i with
  | wrCtrl d =>
    by_cases hp : s.phase = .idle
    · exact .inr ⟨by simp [errorCode, busy, hp], 0#32, by simp [exec, execWrCtrl, ownWrites, hp]⟩
    · exact .inl ⟨.busy, by simp [errorCode, busy, hp, ErrCode.code], exec_wrCtrl_busy hp d⟩
  | transmit count =>
    by_cases hp : s.phase = .idle
    · cases ho : s.oe with
      | false =>
        exact .inl ⟨.pin, by simp [errorCode, busy, hp, ho, ErrCode.code], exec_transmit_undriven hp ho count⟩
      | true =>
        by_cases hn : s.config.nLeds < count.toNat
        · exact .inl ⟨.count, by simp [errorCode, busy, hp, ho, hn, ErrCode.code], exec_transmit_tooMany hp ho hn⟩
        · refine .inr ⟨by simp [errorCode, busy, hp, ho, hn], 0#32, ?_⟩
          rw [exec_transmit_accepted hp ho (Nat.le_of_not_lt hn), seq_idle hp]
          rfl
    · exact .inl ⟨.busy, by simp [errorCode, busy, hp, ErrCode.code], exec_transmit_busy hp count⟩
  | rdFb index d =>
    by_cases hi : s.config.nLeds ≤ index.toNat
    · exact .inl ⟨.bus, by simp [errorCode, hi, ErrCode.code], exec_rdFb_unmapped hi d⟩
    · exact .inr ⟨by simp [errorCode, hi], _, exec_rdFb_mapped (Nat.lt_of_not_le hi) d⟩
  | wrFb index d =>
    by_cases hi : s.config.nLeds ≤ index.toNat
    · exact .inl ⟨.bus, by simp [errorCode, hi, ErrCode.code], exec_wrFb_unmapped hi d⟩
    · by_cases hp : s.phase = .idle
      · refine .inr ⟨by simp [errorCode, busy, hi, hp], 0#32, ?_⟩
        rw [exec_wrFb_accepted hp (Nat.lt_of_not_le hi), seq_idle hp]
        rfl
      · exact .inl ⟨.fbwr, by simp [errorCode, busy, hi, hp, ErrCode.code],
          exec_wrFb_busy hp (Nat.lt_of_not_le hi) d⟩
  | idle | nop | rdCtrl | rdCmd | rdStatus | rdXcount | rdPos | rdConfig | rdTiming0 | rdTiming1 | rdFclk =>
    exact .inr ⟨rfl, _, rfl⟩
  | cmdReserved => exact .inl ⟨.cmd, rfl, rfl⟩
  | badAlignOdd | badAlignHalf | badAddr | wrStatus | wrXcount | wrPos | wrConfig | wrTiming0 | wrTiming1 | wrFclk =>
    exact .inl ⟨.bus, rfl, rfl⟩

theorem exec_of_error {i : Instr} {s : State} {k : Nat} (h : errorCode s i = some k) :
    ∃ c : ErrCode, c.code.toNat = k ∧ exec i s = errorCycle c s := by
  rcases exec_error_or_writes i s with ⟨c, hc, he⟩ | ⟨hn, -⟩
  · exact ⟨c, Option.some.inj (hc.symm.trans h), he⟩
  · cases hn.symm.trans h

theorem exec_of_no_error {i : Instr} {s : State} (h : errorCode s i = none) :
    ∃ r, exec i s = endCycle s r (ownWrites s (seq s) i) := by
  rcases exec_error_or_writes i s with ⟨c, hc, -⟩ | ⟨-, hw⟩
  · cases hc.symm.trans h
  · exact hw

/-- R129: what a cycle does to the error record. -/
theorem exec_record {i : Instr} {s t : State} (h : exec i s = .next t) :
    (t.err = s.err ∧ t.firstErr = s.firstErr) ∨
      ∃ c : ErrCode, t.err = s.err ||| c.mask ∧ t.firstErr = if s.firstErr = 0#3 then c.code else s.firstErr := by
  rcases exec_error_or_writes i s with ⟨c, -, he⟩ | ⟨-, r, hw⟩
  · rw [he, errorCycle_next] at h
    exact .inr ⟨c, by simp [h], by simp [h]⟩
  · rw [hw, endCycle_next] at h
    exact .inl ⟨by simp [h], by simp [h]⟩

/-! ### The error record is sticky (R130) -/

/-- Every error bit of `s` is set in `t`, and a FIRST_ERR set in `s` is the same in `t`. -/
def RecordOnlyGrows (s t : State) : Prop :=
  (∀ j, s.err.getLsbD j = true → t.err.getLsbD j = true) ∧ (s.firstErr ≠ 0#3 → t.firstErr = s.firstErr)

theorem RecordOnlyGrows.of_eq {s t : State} (he : t.err = s.err) (hf : t.firstErr = s.firstErr) : RecordOnlyGrows s t :=
  ⟨fun _ h => he ▸ h, fun _ => hf⟩

theorem RecordOnlyGrows.trans {s t u : State} (h : RecordOnlyGrows s t) (g : RecordOnlyGrows t u) :
    RecordOnlyGrows s u := by
  obtain ⟨herr, hfirst⟩ := h
  obtain ⟨gerr, gfirst⟩ := g
  refine ⟨fun j hj => gerr j (herr j hj), fun hne => ?_⟩
  have ht := hfirst hne
  exact (gfirst (ht ▸ hne)).trans ht

theorem exec_recordOnlyGrows {i : Instr} {s t : State} (h : exec i s = .next t) : RecordOnlyGrows s t := by
  rcases exec_record h with ⟨he, hf⟩ | ⟨c, he, hf⟩
  · exact .of_eq he hf
  · exact ⟨fun j hj => by simp [he, hj], fun hne => by rw [hf, if_neg hne]⟩

theorem step_recordOnlyGrows {s t : State} (hrst : (s.inputAt 0).rst = false) (h : step s = .next t) :
    RecordOnlyGrows s t := by
  obtain ⟨-, ⟨hr, -⟩ | ⟨-, -, -, he⟩⟩ := step_cases h
  · cases hrst.symm.trans hr
  · exact (RecordOnlyGrows.of_eq (by simp) (by simp)).trans (exec_recordOnlyGrows he)

/-- Settles O28, by induction on the number of steps: each one with `rst = 0` only adds to the record. -/
theorem errorsAreSticky : Obligations.ErrorsAreSticky := by
  intro k
  induction k with
  | zero =>
    rintro s t - h
    cases h
    exact RecordOnlyGrows.of_eq rfl rfl
  | succ k ih =>
    intro s t hn h
    obtain ⟨u, hs, hu⟩ := run_succ_cases h
    exact (step_recordOnlyGrows (hn 0 k.succ_pos) hs).trans (ih u t (hn.step hs) hu)

/-! ### What an error records (R128, R129) -/

theorem ErrCode.code_bounds (c : ErrCode) : 1 ≤ c.code.toNat ∧ c.code.toNat ≤ 6 := by cases c <;> decide

/-- Settles O26: by `errorCode`, the cycle is the named error's cycle or one that writes no error record. -/
theorem errorRecordsItsBitAlone : Obligations.ErrorRecordsItsBitAlone := by
  intro i s
  obtain ⟨t, ht⟩ := exec_completes i s
  refine ⟨t, ht, fun hn => ?_, fun k hk => ?_⟩
  · obtain ⟨r, hw⟩ := exec_of_no_error hn
    rw [hw, endCycle_next] at ht
    simp [ht]
  · obtain ⟨c, rfl, he⟩ := exec_of_error hk
    rw [he, errorCycle_eq] at ht
    obtain ⟨h1, h6⟩ := c.code_bounds
    refine ⟨h1, h6, ?_⟩
    rw [BitVec.ofNat_toNat, BitVec.setWidth_eq]
    exact (Host.Outcome.next.inj ht).symm

/-! ### At most one error, the first in R131's order -/

theorem errorCycle_err (c : ErrCode) (s : State) : ∃ t, errorCycle c s = .next t ∧ t.err = s.err ||| c.mask :=
  ⟨_, errorCycle_eq c s, rfl⟩

/-- Settles O27: the record gains one bit at most, and in each pair of causes the cycle is that of the first error. -/
theorem errorPriority : Obligations.ErrorPriority := by
  intro s count index d
  refine ⟨fun i t h => ?_, fun hp _ => ?_, fun hp ho _ => ?_, fun _ hi => ?_, fun _ => errorCycle_err .cmd s⟩
  · rcases exec_record h with ⟨he, -⟩ | ⟨c, he, -⟩
    · exact .inl he
    · obtain ⟨h1, h6⟩ := c.code_bounds
      exact .inr ⟨c.code.toNat - 1, by omega, he⟩
  · rw [exec_transmit_busy hp]
    exact errorCycle_err .busy s
  · rw [exec_transmit_undriven hp ho]
    exact errorCycle_err .pin s
  · rw [exec_wrFb_unmapped hi]
    exact errorCycle_err .bus s

/-! ### The error record blocks nothing (R130) -/

/-- The state with another error record. -/
def State.withRecord (s : State) (e : BitVec 6) (f : BitVec 3) : State := { s with err := e, firstErr := f }

section
variable (s : State) (e : BitVec 6) (f : BitVec 3)

theorem seq_withRecord : seq (s.withRecord e f) = (seq s).withRecord e f := by
  cases hp : s.phase with
  | idle => rw [seq_idle hp, seq_idle (s := s.withRecord e f) hp]
  | bits =>
    rw [seq_bits hp, seq_bits (s := s.withRecord e f) hp]
    simp only [seqBits, apply_ite (State.withRecord · e f)]
    rfl
  | reset =>
    rw [seq_reset hp, seq_reset (s := s.withRecord e f) hp]
    simp only [seqReset, apply_ite (State.withRecord · e f)]
    rfl

theorem ownWrites_withRecord (s1 : State) (i : Instr) :
    ownWrites (s.withRecord e f) (s1.withRecord e f) i = (ownWrites s s1 i).withRecord e f := by cases i <;> rfl

/-- R131: no check that decides the error reads the record. -/
theorem errorCode_withRecord (i : Instr) : errorCode (s.withRecord e f) i = errorCode s i := rfl

end

/-- Settles O29: the record takes no part in the choice of the error, in the sequencer's step or in the own writes. -/
theorem errorsBlockNothing : Obligations.ErrorsBlockNothing := by
  intro i s e f
  cases hc : errorCode s i with
  | none =>
    obtain ⟨r, ht⟩ := exec_of_no_error hc
    obtain ⟨r', hu⟩ := exec_of_no_error ((errorCode_withRecord s e f i).trans hc)
    rw [seq_withRecord, ownWrites_withRecord] at hu
    exact ⟨_, _, ht, hu, rfl⟩
  | some k =>
    obtain ⟨c, -, ht⟩ := exec_of_error hc
    obtain ⟨c', -, hu⟩ := exec_of_error ((errorCode_withRecord s e f i).trans hc)
    rw [errorCycle, seq_withRecord] at hu
    exact ⟨_, _, ht, hu, rfl⟩

/-! ### Interrupts (R134, R135) -/

/-- Settles O40: `irq_inhibit` is 1 exactly in the cycles of BITS (I7). -/
theorem interruptsHeldDuringBits : Obligations.InterruptsHeldDuringBits := by
  intro i s t pending cpuEnable hr h
  have hinh : t.out.irqInhibit = decide (s.phase = .bits) := irqInhibit_of_running hr (exec_out h)
  exact ⟨fun hp => by simp [delivered, hinh, hp], fun hp => by simp [delivered, hinh, hp]⟩

end Sys2Proof.Machine

/-! PROOFS. The end of a run, the `rst` cycle and the host's duties (70_reset_and_hazards.md rules R144, R150, R155). -/

namespace Sys2Proof.Safety

open Sys2Proof.Machine

/-! ### When no TRANSMIT is pending (R155) -/

section
variable {s : State} {j k : Nat} {count : BitVec 16}

/-- The state after `k` steps is met with the `k`-th cycle's input. -/
theorem run_inputAt_zero {t : State} (h : run k s = .next t) : t.inputAt 0 = s.inputAt k := by
  rw [run_keeps_input h, Nat.zero_add]

/-- A TRANSMIT presented in a `rst` cycle stays pending (R144, log entry 17): a decided one came without `rst`. -/
theorem NoTransmitPending.rst_false (h : NoTransmitPending k s) (hj : j ≤ k)
    (hd : decodeWord (s.inputAt j).word = .transmit count) : (s.inputAt j).rst = false := by
  obtain ⟨-, u, hu, hdecided⟩ := h j count hj hd
  rw [← run_inputAt_zero hu]
  rcases hdecided with ⟨-, hrst, -⟩ | ⟨-, hrst, -⟩ <;> exact hrst

/-- A TRANSMIT the cycle itself presents is pending (log entry 17): a finished cycle presents none. -/
theorem NoTransmitPending.presents_none (h : NoTransmitPending k s) (count : BitVec 16) :
    decodeWord (s.inputAt k).word ≠ .transmit count := fun hd =>
  let ⟨hlt, _⟩ := h k count (Nat.le_refl k) hd
  Nat.lt_irrefl k hlt

/-- Where every cycle before the `k`-th finds a running block and no `rst`, each TRANSMIT before it is decided (R75). -/
theorem noTransmitPending_of_running (hrun : ∀ j, j < k → ∃ u, run j s = .next u ∧ Running u) (hn : NoRst k s)
    (hnone : ∀ c, decodeWord (s.inputAt k).word ≠ .transmit c) : NoTransmitPending k s := by
  intro j count hj hd
  obtain rfl | hlt := Nat.eq_or_lt_of_le hj
  · exact absurd hd (hnone count)
  · obtain ⟨u, hu, hr⟩ := hrun j hlt
    have hin := run_inputAt_zero hu
    exact ⟨hlt, u, hu, transmit_is_decided hr (by rw [hin, hn j hlt]) (by rw [hin, hd])⟩

end

end Sys2Proof.Safety

namespace Sys2Proof.Machine

open Sys2Proof.Safety

/-! ### When a run is finished after an accepted TRANSMIT (R101, R155) -/

section
variable {s : State} {k : Nat} {count : BitVec 16}

/-- From the accepting cycle to the first IDLE one the block is running (R101). -/
theorem accepts_run_running (h : Accepts count s) (hn : NoRst k s) (hk : k ≤ 1 + s.config.busyCycles count.toNat) :
    ∃ u, run k s = .next u ∧ Running u := by
  cases k with
  | zero => exact ⟨s, rfl, h.1⟩
  | succ m =>
    rw [Nat.add_comm] at hn hk ⊢
    obtain ⟨u, hu, hst⟩ := accepts_run h hn (Nat.le_of_add_le_add_left hk)
    exact ⟨u, hu, hst.running⟩

/-- R155 before the first IDLE cycle: the accepting cycle presents its TRANSMIT, and the others are BUSY. -/
theorem accepts_not_finished (h : Accepts count s) (hn : NoRst k s) (hk : k < 1 + s.config.busyCycles count.toNat) :
    ¬ Finished k s := by
  rintro ⟨⟨t, ht, hidle, -⟩, hpending⟩
  cases k with
  | zero =>
    obtain ⟨-, -, hd, -⟩ := h
    exact hpending.presents_none count hd
  | succ m =>
    rw [Nat.add_comm] at hn hk ht
    have hm := Nat.lt_of_add_lt_add_left hk
    obtain ⟨u, hu, hst⟩ := accepts_run h hn hm.le
    obtain rfl : u = t := Host.Outcome.next.inj (hu.symm.trans ht)
    exact hst.busy hm hidle

/-- In the first IDLE cycle the first two conditions of R155 hold, and the third is left to what that cycle presents. -/
theorem accepts_finished_iff (h : Accepts count s) (hn : NoRst (1 + s.config.busyCycles count.toNat) s) :
    Finished (1 + s.config.busyCycles count.toNat) s ↔
      ∀ c, decodeWord (s.inputAt (1 + s.config.busyCycles count.toNat)).word ≠ .transmit c := by
  refine ⟨fun ⟨_, hpending⟩ => hpending.presents_none, fun hnone => ?_⟩
  obtain ⟨t, ht, hst⟩ := accepts_run h hn (Nat.le_refl _)
  exact ⟨⟨t, ht, hst.ends⟩,
    noTransmitPending_of_running (fun j hj => accepts_run_running h (hn.mono hj.le) hj.le) hn hnone⟩

end

/-- Settles O55: the cycles up to the first IDLE one by `accepts_not_finished` and `accepts_finished_iff`; the other two
clauses are what a pending TRANSMIT is. -/
theorem runFinishesWhenIdleAndNothingPending : Obligations.RunFinishesWhenIdleAndNothingPending := by
  refine ⟨fun s count h => ?_, fun s j k c hj hrst hd => ?_, fun s t k c hfin ht hacc => ?_⟩
  · intro b hn
    exact ⟨fun m hm => accepts_not_finished h (hn.mono hm.le) hm, accepts_finished_iff h hn⟩
  · rintro ⟨-, hpending⟩
    cases (hpending.rst_false hj hd).symm.trans hrst
  · obtain ⟨-, hpending⟩ := hfin
    obtain ⟨-, -, hd, -⟩ := hacc
    rw [run_inputAt_zero ht] at hd
    exact hpending.presents_none c hd

/-! ### The `rst` cycle (R144) -/

/-- R144: in a `rst` cycle the step of a block is the `rst` edge, in every state and with any transaction. -/
theorem step_rst {s : State} (hv : s.config.Valid) (hrst : (s.inputAt 0).rst = true) :
    step s = .next (rstEdge s.consumeInput) := by
  rw [step, if_neg (not_not.mpr hv), if_pos hrst]

/-- R144: with `rst = 1` all outputs are 0, whatever the state and the read. -/
theorem outputs_rst (s : State) (r : Word) : outputs s true r = Outputs.quiet := rfl

/-- A running block's step with `rst = 0` goes on, and drives the pin as OE says (R91). -/
theorem step_running_pinOe {s : State} (h : Running s) (hrst : (s.inputAt 0).rst = false) :
    ∃ t, step s = .next t ∧ t.out.pinOe = s.oe := by
  obtain ⟨t, ht⟩ := exec_completes (decodeWord (s.inputAt 0).word) s.consumeInput
  have hs : step s = .next t := (step_running_eq h hrst).trans ht
  obtain ⟨r, hr⟩ := step_showsOutputs hs hrst
  exact ⟨t, hs, by rw [hr, outputs_pinOe]⟩

/-- Settles O8: the step is the `rst` edge, whose state is running with OE = 0. -/
theorem rstCycleResets : Obligations.RstCycleResets := by
  intro s hv hfb hrst
  have hrunning : Running (rstEdge s.consumeInput) :=
    rstEdge_running (by simpa using hv) (by simpa [State.FbWf] using hfb)
  refine ⟨_, step_rst hv hrst, ?_⟩
  simpa [outputs_rst, Outputs.quiet] using step_running_pinOe hrunning

/-! ### The host's duties (R150) -/

/-- R150: the duties H-D1 to H-D5 rule out exactly the transactions that raise an error (R128). -/
theorem keepsDuties_eq_isNone_errorCode (s : State) (i : Instr) : keepsDuties s i = (errorCode s i).isNone := by
  cases i with
  | wrCtrl d => cases hb : busy s <;> simp [keepsDuties, errorCode, hb]
  | transmit count =>
    cases hb : busy s with
    | true => simp [keepsDuties, errorCode, hb]
    | false =>
      cases ho : s.oe with
      | false => simp [keepsDuties, errorCode, hb, ho]
      | true => by_cases hn : s.config.nLeds < count.toNat <;> simp [keepsDuties, errorCode, hb, ho, hn, ← Nat.not_lt]
  | rdFb index d => by_cases hi : s.config.nLeds ≤ index.toNat <;> simp [keepsDuties, errorCode, hi, ← Nat.not_le]
  | wrFb index d =>
    by_cases hi : s.config.nLeds ≤ index.toNat
    · simp [keepsDuties, errorCode, hi]
    · cases hb : busy s <;> simp [keepsDuties, errorCode, hb, hi, ← Nat.not_le]
  | idle | nop | rdCtrl | rdCmd | rdStatus | rdXcount | rdPos | rdConfig | rdTiming0 | rdTiming1 | rdFclk
      | badAlignOdd | badAlignHalf | badAddr | cmdReserved | wrStatus | wrXcount | wrPos | wrConfig | wrTiming0
      | wrTiming1 | wrFclk => rfl

/-- Settles O30: a transaction keeps the duties exactly if `errorCode` names no error for it, and an error's bit is set
after its cycle (R129). -/
theorem hostDutiesDecideErrors : Obligations.HostDutiesDecideErrors := by
  intro i s t h
  rw [keepsDuties_eq_isNone_errorCode]
  rcases exec_error_or_writes i s with ⟨c, hc, he⟩ | ⟨hn, r, hw⟩
  · rw [he, errorCycle_next] at h
    refine ⟨fun hk => by simp [hc] at hk, fun _ => ?_⟩
    simp [h, GoneWrong, BitVec.or_eq_zero_iff, c.mask_ne_zero]
  · rw [hw, endCycle_next] at h
    exact ⟨fun _ => by simp [h], fun hk => by simp [hn] at hk⟩

end Sys2Proof.Machine

/-! PROOFS. Decoding and encoding undo each other (30_encoding.md rules R59 to R64), on words and on bytes (log
entry 11). -/

namespace Sys2Proof

/-! ### The rows of R64 that are told by their address -/

theorem decodeFields_odd {a : Addr} (hodd : a.getLsbD 0 = true) (acc : Access) (d : Word) :
    decodeFields true acc a d = .badAlignOdd acc a d := by
  simp [decodeFields, hodd, -BitVec.getLsbD_eq_getElem]

theorem decodeFields_half {a : Addr} (hodd : a.getLsbD 0 = false) (hhalf : a.getLsbD 1 = true) (acc : Access)
    (d : Word) : decodeFields true acc a d = .badAlignHalf acc a d := by
  simp [decodeFields, hodd, hhalf, -BitVec.getLsbD_eq_getElem]

/-- R47: the registers stand at the multiples of 4 up to 0x20. -/
theorem aligned_addr_le_iff {a : Addr} (hodd : a.getLsbD 0 = false) (hhalf : a.getLsbD 1 = false) :
    a.toNat ≤ 0x0020 ↔ a = 0x0000#13 ∨ a = 0x0004#13 ∨ a = 0x0008#13 ∨ a = 0x000C#13 ∨ a = 0x0010#13 ∨
      a = 0x0014#13 ∨ a = 0x0018#13 ∨ a = 0x001C#13 ∨ a = 0x0020#13 := by
  rw [BitVec.getLsbD, Nat.testBit_eq_decide_div_mod_eq, decide_eq_false_iff_not] at hodd hhalf
  simp only [← BitVec.toNat_inj, BitVec.toNat_ofNat]
  omega

/-- Row 26 of R64: no row before it takes an aligned address that is not mapped. -/
theorem decodeFields_unmapped {a : Addr} (hodd : a.getLsbD 0 = false) (hhalf : a.getLsbD 1 = false)
    (hmap : Addr.mapped a = false) (acc : Access) (d : Word) :
    decodeFields true acc a d = .badAddr acc a d := by
  obtain ⟨hwindow, hreg⟩ : a.getLsbD 12 = false ∧ ¬ a.toNat ≤ 0x0020 := by
    simpa [Addr.mapped, -BitVec.getLsbD_eq_getElem] using hmap
  rw [aligned_addr_le_iff hodd hhalf] at hreg
  simp only [not_or] at hreg
  simp [decodeFields, hodd, hhalf, hwindow, hreg, -BitVec.getLsbD_eq_getElem]

/-- R48: an aligned address of the window is that of the word its `A[11:2]` names. -/
theorem fbAddr_extract {a : Addr} (hodd : a.getLsbD 0 = false) (hhalf : a.getLsbD 1 = false)
    (hwindow : a.getLsbD 12 = true) : fbAddr (a.extractLsb' 2 10) = a := by
  apply BitVec.eq_of_toNat_eq
  have hlt := a.isLt
  rw [BitVec.getLsbD, Nat.testBit_eq_decide_div_mod_eq] at hodd hhalf hwindow
  rw [decide_eq_false_iff_not] at hodd hhalf
  rw [decide_eq_true_iff] at hwindow
  rw [fbAddr_toNat, BitVec.extractLsb'_toNat, Nat.shiftRight_eq_div_pow]
  omega

/-! ### From an instruction to its word and back -/

/-- R61: the command word of a TRANSMIT. -/
theorem decodeCommand_transmit (count : BitVec 16) : decodeCommand (count ++ 0x0001#16) = .transmit count := by
  have hcode : (count ++ 0x0001#16 : Word).extractLsb' 0 16 = 1#16 := BitVec.extractLsb'_append_eq_right
  have hcount : (count ++ 0x0001#16 : Word).extractLsb' 16 16 = count := BitVec.extractLsb'_append_eq_left
  have hnop : (count ++ 0x0001#16 : Word) ≠ 0#32 := by
    intro h
    rw [h] at hcode
    exact absurd hcode (by decide)
  rw [decodeCommand, if_neg hnop, if_pos hcode, hcount]

/-- Settles O2, row by row: the fields packed are the fields read, a register's row is its address evaluated, and the
checks of `wf` keep a word out of the rows before its own (R63). -/
theorem encodeThenDecodeGivesInstruction : Obligations.EncodeThenDecodeGivesInstruction := by
  intro i hwf
  cases i with
  | badAlignOdd acc a d => exact (decodeWord_packT _ _ _ _).trans (decodeFields_odd hwf acc d)
  | badAlignHalf acc a d =>
    obtain ⟨hhalf, hodd⟩ : a.getLsbD 1 = true ∧ a.getLsbD 0 = false := by
      simpa [Instr.wf, -BitVec.getLsbD_eq_getElem] using hwf
    exact (decodeWord_packT _ _ _ _).trans (decodeFields_half hodd hhalf acc d)
  | transmit count => exact (decodeWord_packT _ _ _ _).trans (decodeCommand_transmit count)
  | cmdReserved d =>
    obtain ⟨hnop, hcode⟩ : d ≠ 0#32 ∧ d.extractLsb' 0 16 ≠ 1#16 := by simpa [Instr.wf] using hwf
    exact (decodeWord_packT _ _ _ _).trans ((if_neg hnop).trans (if_neg hcode))
  | rdFb index d => exact (decodeWord_packT _ _ _ _).trans (decodeFields_fbAddr .read index d)
  | wrFb index d => exact (decodeWord_packT _ _ _ _).trans (decodeFields_fbAddr .write index d)
  | badAddr acc a d =>
    obtain ⟨⟨hodd, hhalf⟩, hmap⟩ : (a.getLsbD 0 = false ∧ a.getLsbD 1 = false) ∧ Addr.mapped a = false := by
      simpa [Instr.wf, -BitVec.getLsbD_eq_getElem] using hwf
    exact (decodeWord_packT _ _ _ _).trans (decodeFields_unmapped hodd hhalf hmap acc d)
  | idle | nop | rdCtrl | wrCtrl | rdCmd | rdStatus | wrStatus | rdXcount | wrXcount | rdPos | wrPos | rdConfig
      | wrConfig | rdTiming0 | wrTiming0 | rdTiming1 | wrTiming1 | rdFclk | wrFclk => exact decodeWord_packT _ _ _ _

/-! ### From a word to its instruction and back -/

/-- `i` is a well-formed instruction with the word `w`. -/
def Instr.EncodesTo (i : Instr) (w : Transaction) : Prop := i.wf = true ∧ encode i = w

theorem byAccess_encodesTo {a : Addr} {d : Word} {rd wr : Instr} (hrd : rd.EncodesTo (packT true .read a d))
    (hwr : wr.EncodesTo (packT true .write a d)) (acc : Access) :
    (byAccess acc rd wr).EncodesTo (packT true acc a d) := by
  cases acc with
  | read => exact hrd
  | write => exact hwr

/-- Rows 7 to 9 of R64: a TRANSMIT's word is put together again from its two halves. -/
theorem decodeCommand_encodesTo (d : Word) : (decodeCommand d).EncodesTo (packT true .write 0x0004#13 d) := by
  unfold decodeCommand
  split
  case isTrue hnop => exact ⟨rfl, by rw [hnop]; rfl⟩
  case isFalse hnop =>
    split
    case isTrue hcode =>
      have hd : d.extractLsb' 16 16 ++ 0x0001#16 = d := by
        rw [← hcode, BitVec.extractLsb'_append_extractLsb'_eq_extractLsb' (by rfl)]
        exact BitVec.extractLsb'_eq_self
      exact ⟨rfl, congrArg (packT true .write 0x0004#13) hd⟩
    case isFalse hcode => exact ⟨by simp [Instr.wf, hnop, hcode], rfl⟩

/-- Rows 4 to 25 of R64: the window and the registers. -/
theorem decodeFields_mapped_encodesTo {a : Addr} (hodd : a.getLsbD 0 = false) (hhalf : a.getLsbD 1 = false)
    (hmap : Addr.mapped a = true) (acc : Access) (d : Word) :
    (decodeFields true acc a d).EncodesTo (packT true acc a d) := by
  cases hwindow : a.getLsbD 12 with
  | true =>
    obtain ⟨index, rfl⟩ : ∃ index, fbAddr index = a := ⟨_, fbAddr_extract hodd hhalf hwindow⟩
    rw [decodeFields_fbAddr]
    exact byAccess_encodesTo ⟨rfl, rfl⟩ ⟨rfl, rfl⟩ acc
  | false =>
    have hreg : a.toNat ≤ 0x0020 := by simpa [Addr.mapped, hwindow, -BitVec.getLsbD_eq_getElem] using hmap
    obtain rfl | rfl | rfl | rfl | rfl | rfl | rfl | rfl | rfl := (aligned_addr_le_iff hodd hhalf).mp hreg
    case inr.inl => exact byAccess_encodesTo ⟨rfl, rfl⟩ (decodeCommand_encodesTo d) acc
    all_goals exact byAccess_encodesTo ⟨rfl, rfl⟩ ⟨rfl, rfl⟩ acc

theorem decodeFields_encodesTo (v : Bool) (acc : Access) (a : Addr) (d : Word) :
    (decodeFields v acc a d).EncodesTo (packT v acc a d) := by
  cases v with
  | false => exact ⟨rfl, rfl⟩
  | true =>
    cases hodd : a.getLsbD 0 with
    | true =>
      rw [decodeFields_odd hodd]
      exact ⟨hodd, rfl⟩
    | false =>
      cases hhalf : a.getLsbD 1 with
      | true =>
        rw [decodeFields_half hodd hhalf]
        exact ⟨by simp [Instr.wf, hodd, hhalf, -BitVec.getLsbD_eq_getElem], rfl⟩
      | false =>
        cases hmap : Addr.mapped a with
        | true => exact decodeFields_mapped_encodesTo hodd hhalf hmap acc d
        | false =>
          rw [decodeFields_unmapped hodd hhalf hmap]
          exact ⟨by simp [Instr.wf, hodd, hhalf, hmap, -BitVec.getLsbD_eq_getElem], rfl⟩

/-- Settles O3: a word is put together from its fields. -/
theorem decodeThenEncodeGivesWord : Obligations.DecodeThenEncodeGivesWord := by
  intro w
  have h := decodeFields_encodesTo (fieldV w) (fieldW w) (fieldA w) (fieldD w)
  rwa [packT_fields] at h

/-! ### Bytes (log entry 11) -/

@[simp] theorem natToBytes_length (n w : Nat) : (natToBytes n w).length = n := by
  induction n generalizing w with
  | zero => rfl
  | succ n ih => rw [natToBytes, List.length_cons, ih]

/-- `n` bytes hold a number up to its multiples of `256^n`. -/
theorem bytesToNat_natToBytes (n w : Nat) : bytesToNat (natToBytes n w) = w % 256 ^ n := by
  induction n generalizing w with
  | zero => exact (Nat.mod_one w).symm
  | succ n ih => rw [natToBytes, bytesToNat, ih, BitVec.toNat_ofNat, Nat.pow_succ' (m := 256), Nat.mod_mul]

theorem decodeBytes_eq_ok_iff {bs : List Byte} {i : Instr} :
    decodeBytes bs = .ok i ↔
      (bs.length = 6 ∧ bytesToNat bs < 2 ^ 47) ∧ decodeWord (BitVec.ofNat 47 (bytesToNat bs)) = i := by
  unfold decodeBytes
  split
  case isTrue hlen => simp [hlen]
  case isFalse hlen =>
    split
    case isTrue hbit => exact ⟨nofun, fun ⟨⟨_, hlt⟩, _⟩ => absurd hbit (Nat.not_le.mpr hlt)⟩
    case isFalse hbit =>
      rw [Except.ok.injEq]
      exact (and_iff_right ⟨not_not.mp hlen, Nat.lt_of_not_le hbit⟩).symm

/-- Format T fits in six bytes. -/
theorem decodeBytes_natToBytes {w : Nat} (h : w < 2 ^ 47) :
    decodeBytes (natToBytes 6 w) = .ok (decodeWord (BitVec.ofNat 47 w)) := by
  have hw : bytesToNat (natToBytes 6 w) = w := (bytesToNat_natToBytes 6 w).trans (Nat.mod_eq_of_lt (by omega))
  rw [decodeBytes_eq_ok_iff, hw]
  exact ⟨⟨natToBytes_length 6 w, h⟩, rfl⟩

/-- Settles O5: the two checks of `decodeBytes`, and that six bytes give back the word laid out in them. -/
theorem bytesDecodeExactlyWhenTransaction : Obligations.BytesDecodeExactlyWhenTransaction := by
  refine ⟨fun bs => ?_, fun i hwf => ?_, fun w hw => ?_⟩
  · simp only [decodeBytes_eq_ok_iff, exists_and_left, exists_eq', and_true]
  · rw [encodeBytes, decodeBytes_natToBytes (encode i).isLt, BitVec.ofNat_toNat, BitVec.setWidth_eq,
      encodeThenDecodeGivesInstruction i hwf]
  · have hmod : w % 2 ^ 48 = w := Nat.mod_eq_of_lt (by omega)
    rw [decodeTableWord, hmod]
    exact congrArg Except.toOption (decodeBytes_natToBytes hw)

end Sys2Proof

namespace Sys2Proof.Machine.Script

/-! ### Pseudo-instructions (R67) -/

/-- Settles O6, from what each line decodes to. -/
theorem pseudoInstructionsDecode : Obligations.PseudoInstructionsDecode :=
  ⟨decodeWord_packT _ _ _ _, fun _ hn => decodeWord_transmit hn,
    fun b => ⟨_, decodeWord_pincfg b, oeOperand_pincfg b⟩,
    fun _ hi r g b => ⟨_, decodeWord_putled hi r g b, colorOperand_putledData r g b⟩⟩

end Sys2Proof.Machine.Script

/-! PROOFS. What a step does and when it stops (41_bit_sequencer.md rule R83), and the reset states (10_state.md rules
R43, R44). -/

namespace Sys2Proof.Machine

open Sys2Proof.Safety

/-! ### The step (R18, R43, R146) -/

theorem State.consumeInput_nil {s : State} (h : s.script = []) :
    s.consumeInput = { s with hostDraws := s.hostDraws + 1 } := by simp [State.consumeInput, h]

/-- Settles O7: in a running block nothing stops the step. -/
theorem stepRunsDecodedInstruction : Obligations.StepRunsDecodedInstruction := by
  rintro s _ hr hrst rfl
  exact ⟨step_running_eq hr hrst, fun _ _ h => ⟨State.inputAt_zero_cons h, State.consumeInput_cons h⟩,
    State.consumeInput_nil⟩

theorem step_invalid {s : State} (hv : ¬ s.config.Valid) : step s = .refused .invalidConfiguration := if_pos hv

theorem step_unreset {s : State} (hv : s.config.Valid) (hrst : (s.inputAt 0).rst = false) (hseen : s.rstSeen = false) :
    step s = .refused .noResetYet := by
  rw [step, if_neg (not_not.mpr hv), if_neg (by simp [hrst]), if_pos hseen]

theorem step_broken {s : State} (hv : s.config.Valid) (hrst : (s.inputAt 0).rst = false) (hseen : s.rstSeen = true)
    (hi : ¬ s.Invariants) : step s = .fault .invariantBroken := by
  rw [step, if_neg (not_not.mpr hv), if_neg (by simp [hrst]), if_neg (by simp [hseen]), if_pos hi]

/-- A step goes on where a block exists and a `rst` cycle has been or is now, in a state that keeps R43. -/
theorem step_goes_on {s : State} (hv : s.config.Valid)
    (h : (s.inputAt 0).rst = true ∨ (s.rstSeen = true ∧ s.Invariants)) : ∃ t, step s = .next t := by
  cases hrst : (s.inputAt 0).rst with
  | true => exact ⟨_, step_rst hv hrst⟩
  | false =>
    obtain ⟨hseen, hi⟩ := h.resolve_left (by simp [hrst])
    rw [step_eq_exec hv hrst hseen hi]
    exact exec_completes _ _

/-- The four outcomes of a step, each with its cause. -/
theorem step_outcomes (s : State) :
    (¬ s.config.Valid ∧ step s = .refused .invalidConfiguration) ∨
    (s.config.Valid ∧ (s.inputAt 0).rst = false ∧ s.rstSeen = false ∧ step s = .refused .noResetYet) ∨
    (s.config.Valid ∧ (s.inputAt 0).rst = false ∧ s.rstSeen = true ∧ ¬ s.Invariants ∧
      step s = .fault .invariantBroken) ∨
    (s.config.Valid ∧ ((s.inputAt 0).rst = true ∨ (s.rstSeen = true ∧ s.Invariants)) ∧ ∃ t, step s = .next t) := by
  by_cases hv : s.config.Valid
  case neg => exact .inl ⟨hv, step_invalid hv⟩
  case pos =>
    cases hrst : (s.inputAt 0).rst with
    | true => exact .inr (.inr (.inr ⟨hv, .inl rfl, step_goes_on hv (.inl hrst)⟩))
    | false =>
      cases hseen : s.rstSeen with
      | false => exact .inr (.inl ⟨hv, rfl, rfl, step_unreset hv hrst hseen⟩)
      | true =>
        by_cases hi : s.Invariants
        · exact .inr (.inr (.inr ⟨hv, .inr ⟨rfl, hi⟩, step_goes_on hv (.inr ⟨hseen, hi⟩)⟩))
        · exact .inr (.inr (.inl ⟨hv, rfl, rfl, hi, step_broken hv hrst hseen hi⟩))

/-- Settles O9: the causes of the four outcomes exclude each other, whatever the two predicates say. -/
theorem stepStopsExactly : Obligations.StepStopsExactly := by
  intro s
  have h := step_outcomes s
  generalize s.config.Valid = valid at h ⊢
  generalize s.Invariants = invariants at h ⊢
  obtain ⟨hv, hs⟩ | ⟨hv, hrst, hseen, hs⟩ | ⟨hv, hrst, hseen, hi, hs⟩ | ⟨hv, hgo, t, hs⟩ := h
  · simp [hs, hv]
  · simp [hs, hv, hrst, hseen]
  · simp [hs, hv, hrst, hseen, hi]
  · obtain hrst | ⟨hseen, hi⟩ := hgo
    · simp [hs, hv, hrst]
    · simp [hs, hv, hseen, hi]

/-! ### The reset states (R44) -/

/-- R144, R147: a further `rst` cycle would leave them as they are. -/
theorem rstEdge_resetWith (c : Config) : rstEdge (State.resetWith c) = State.resetWith c := rfl

theorem resetWith_running {c : Config} (hv : c.Valid) : Running (State.resetWith c) :=
  rstEdge_resetWith c ▸ rstEdge_running (s := State.resetWith c) hv (State.resetWith_fbWf c)

theorem vectorDefault_valid : Config.vectorDefault.Valid := by decide

/-- Settles O11: a reset state is what a `rst` cycle leaves. -/
theorem invariantsHoldAtReset : Obligations.InvariantsHoldAtReset :=
  ⟨fun _ hv => resetWith_running hv, resetWith_running vectorDefault_valid⟩

/-- R147: every word is its power-on value, inside the list and past it (log entry 5). -/
theorem resetWith_fb_read (c : Config) (i : Nat) :
    FrameBuffer.read (State.resetWith c).fb i = Config.powerOnWord i := by
  by_cases hi : i < c.nLeds <;> simp [FrameBuffer.read, List.getD_eq_getElem?_getD, hi]

theorem resetWith_statusWord (c : Config) : statusWord (State.resetWith c) = 0#32 := by
  simp [statusWord, busy, Phase.code]

theorem resetWith_posWord (c : Config) : posWord (State.resetWith c) = 0#32 := by simp [posWord]

/-- Settles O10: the registers are those of `resetWith`, and the words read are made of zeros. -/
theorem resetValues : Obligations.ResetValues := fun c =>
  ⟨rfl, rfl, rfl, rfl, rfl, rfl, rfl, rfl, rfl, rfl, rfl, rfl, resetWith_statusWord c, rfl, resetWith_posWord c,
    resetWith_fb_read c⟩

end Sys2Proof.Machine

/-! PROOFS. What every step of a running block keeps, and so every run (00_scope.md rule R7, 10_state.md rules R27,
R41, R43). -/

namespace Sys2Proof.Machine

open Sys2Proof.Safety

/-- R43: a running block is never stuck. -/
theorem running_step {s : State} (h : Running s) : ∃ t, step s = .next t ∧ Running t := by
  obtain ⟨t, ht⟩ := step_goes_on (running_valid h) (.inr ⟨h.2, running_invariants h⟩)
  exact ⟨t, ht, step_running h.1 ht⟩

/-- Settles O13, by induction on the number of steps. -/
theorem runsNeverStop : Obligations.RunsNeverStop := by
  intro k
  induction k with
  | zero => exact fun s h => ⟨s, rfl, h⟩
  | succ k ih =>
    intro s h
    obtain ⟨u, hu, hru⟩ := running_step h
    obtain ⟨t, ht, hrt⟩ := ih u hru
    exact ⟨t, (run_succ_next hu).trans ht, hrt⟩

/-- R55: WR_FB writes the buffer only while IDLE, where no word is latched; an accepted TRANSMIT latches word 0. -/
theorem exec_latched {i : Instr} {s t : State} (h : Running s) (hl : s.Latched) (he : exec i s = .next t) :
    t.Latched := by
  have hseq := seq_latched (running_valid h) (running_invariants h) hl
  rcases exec_cases he with
    ⟨r, rfl⟩ | ⟨e, rfl⟩ | ⟨d, -, -, rfl⟩ | ⟨n, -, -, -, -, rfl⟩ | ⟨j, d, -, hp, -, rfl⟩
  · exact hseq
  · exact hseq
  · exact hseq
  · exact fun _ => by simp
  · exact fun hb => by simp [seq_idle hp, hp] at hb

theorem step_latched {s t : State} (h : Running s) (hl : s.Latched) (hs : step s = .next t) : t.Latched := by
  obtain ⟨-, ⟨-, rfl⟩ | ⟨-, -, -, he⟩⟩ := step_cases hs
  · exact fun hb => by simp at hb
  · exact exec_latched (consumeInput_running h) ((State.consumeInput_latched s).mpr hl) he

/-- Settles O14: `Latched` is the statement's predicate. -/
theorem latchedWordStaysFrameBufferWord : Obligations.LatchedWordStaysFrameBufferWord :=
  fun _ _ h hl hs => step_latched h hl hs

theorem step_keeps_config_and_size {s t : State} (h : step s = .next t) :
    t.config = s.config ∧ t.fb.length = s.fb.length := by
  obtain ⟨-, ⟨-, rfl⟩ | ⟨-, -, -, he⟩⟩ := step_cases h
  · simp
  · obtain ⟨-, -, hconfig, -⟩ := exec_keeps_input he
    exact ⟨by simpa using hconfig, by simpa using exec_fb_length he⟩

/-- Settles O16, by induction on the number of steps. -/
theorem runsKeepConfigurationAndSize : Obligations.RunsKeepConfigurationAndSize := by
  intro k
  induction k with
  | zero =>
    rintro s t h
    cases h
    exact ⟨rfl, rfl⟩
  | succ k ih =>
    intro s t h
    obtain ⟨u, hs, hu⟩ := run_succ_cases h
    obtain ⟨hconfig, hlen⟩ := step_keeps_config_and_size hs
    obtain ⟨hconfig', hlen'⟩ := ih u t hu
    exact ⟨hconfig'.trans hconfig, hlen'.trans hlen⟩

end Sys2Proof.Machine

/-! PROOFS. What the three transactions that can write leave (40_commands.md rules R75 to R80, 42_register_access.md
rules R109, R126). -/

namespace Sys2Proof.Machine

/-- Settles O37: each of the three is an error cycle, or makes its own writes while the sequencer holds in IDLE. -/
theorem writesFrame : Obligations.WritesFrame := by
  intro s t index count d
  refine ⟨fun h => ?ctrl, fun h => ?transmit, fun h => ?fb⟩
  case ctrl =>
    by_cases hp : s.phase = .idle
    · rw [exec_wrCtrl_idle hp, endCycle_next] at h
      simp [h, seq_idle hp, hp]
    · rw [exec_wrCtrl_busy hp, errorCycle_next] at h
      simp [h, hp]
  case transmit =>
    obtain ⟨r, rfl⟩ | ⟨e, rfl⟩ | ⟨_, ⟨⟩, -⟩ | ⟨_, -, hp, -, -, rfl⟩ | ⟨_, _, ⟨⟩, -⟩ := exec_cases h
    · simp
    · simp
    · simp [seq_idle hp, hp]
  case fb =>
    by_cases hi : s.config.nLeds ≤ indexOperand index
    · rw [exec_wrFb_unmapped hi, errorCycle_next] at h
      have hn : ¬ index.toNat < s.config.nLeds := Nat.not_lt.mpr hi
      simp [h, hn]
    · have hlt := Nat.lt_of_not_le hi
      by_cases hp : s.phase = .idle
      · rw [exec_wrFb_accepted hp hlt, endCycle_next] at h
        have hother : ∀ j, j ≠ indexOperand index →
            FrameBuffer.read (FrameBuffer.write s.fb (indexOperand index) (colorOperand d)) j =
              FrameBuffer.read s.fb j := fun _ hj => FrameBuffer.read_write_other s.fb hj.symm _
        simpa [h, seq_idle hp] using hother
      · rw [exec_wrFb_busy hp hlt, errorCycle_next] at h
        simp [h, hp]

end Sys2Proof.Machine
